-- ==== Sys2Proof/Word.lean ====
section
/-! DEFINITION. The word types of the block and the formats of its operation codes.
Spec: 00_scope.md R6 (widths), R12 (bit 0 is the least significant); 30_encoding.md R80 (formats). -/

namespace Sys2Proof

/-- A host register's value, 32 bits (R6, R24 to R27). -/
abbrev Word := BitVec 32

/-- One byte of the decoded frame (R6, R28). -/
abbrev Byte := BitVec 8

/-- A pulse counter, and every value compared with one, 16 bits (R6, R20). -/
abbrev Count := BitVec 16

/-- The formats an operation code comes in (R80). The fourth format of R80, `F40`, is the received
frame: data, not an operation (`Machine.Block.f40`). -/
inductive Format where
  /-- the word the host writes to register 0 (R87) -/
  | cmd32
  /-- the code in `PHASE` that selects the operation of a tick (R86) -/
  | phase4
  /-- the code on `pad_cmd` (R88) -/
  | pad2
  deriving DecidableEq, Repr

/-- Every format is of fixed length (R80): the number of bits of each. -/
def Format.width : Format → Nat
  | .cmd32 => 32
  | .phase4 => 4
  | .pad2 => 2

/-- An operation code as written: its format and its bits read as one number, bit 0 the least
significant (R12). -/
structure EncodedWord where
  format : Format
  bits   : Nat
  deriving DecidableEq, Repr

end Sys2Proof
end

