-- ==== Sys2Proof/Config.lean ====
section
/-! DEFINITION. What is fixed for one hardware (constants R4, parameters R5), what the environment can do
to the block (R7, R32), and the free values the spec leaves to the environment (93 U6, U10). -/

namespace Sys2Proof

namespace Config

/-- Low/high windows sampled per transaction (R4). -/
def nWindows : Nat := 41
/-- Entries of the pulse sample buffer (R4, R20). -/
def nCounters : Nat := 82
/-- Data windows, one bit each (R4). -/
def nDataBits : Nat := 40
/-- Bytes of the decoded frame (R4, R28). -/
def nBytes : Nat := 5
/-- `CEILING`, the polling-iteration ceiling of every wait counter (R4, R154). -/
def ceiling : Nat := 36000
/-- `T_WAKE_HIGH_MS` (R4). -/
def wakeHighMs : Nat := 500
/-- `T_WAKE_LOW_MS` (R4). -/
def wakeLowMs : Nat := 20
/-- `MEAN_DIVISOR`, the divisor of the low-count sum (R4, R170). -/
def meanDivisor : Nat := 40

end Config

/-- The parameters of R5: arguments of the model, fixed for the lifetime of the hardware. -/
structure Params where
  /-- `TICKS_PER_MS`, sequencer ticks per millisecond (OPEN in the spec) -/
  ticksPerMs : Nat
  /-- `N_SETTLE`, ticks of the settling wait -/
  nSettle    : Nat
  /-- `ACK_IN_SUM`: whether window 1's low count is in the threshold sum -/
  ackInSum   : Bool
  deriving DecidableEq, Repr

/-- `N_WAKE_HIGH = 500 × TICKS_PER_MS` (R5). -/
def Params.nWakeHigh (p : Params) : Nat := Config.wakeHighMs * p.ticksPerMs

/-- `N_WAKE_LOW = 20 × TICKS_PER_MS` (R5). -/
def Params.nWakeLow (p : Params) : Nat := Config.wakeLowMs * p.ticksPerMs

/-- A claim on the line (R32): none, as output, as input. Value 3 of `CLAIM` is never written and is
left out (R90, 93 U14). -/
inductive Claim where
  | none
  | out
  | inp
  deriving DecidableEq, Repr, Inhabited

/-- The four kinds of atomic transition (R7). A host-script statement of R92 is one of these. -/
inductive Transition where
  /-- `Reset()` (R240) -/
  | reset
  /-- `HostWrite(n, v)` (R110 to R112, R61) -/
  | hostWrite (n : Nat) (v : Word)
  /-- `HostRead(n)` (R113, R61) -/
  | hostRead (n : Nat)
  /-- `Tick(din, pad_fail)` -/
  | tick (din padFail : Bool)
  deriving DecidableEq, Repr, Inhabited

/-- What the outside can present to the block: a transition of R7, or a bus cycle that is not one
whole register (narrow, wide or misaligned), to which R67 gives no meaning. -/
inductive Event where
  | does (t : Transition)
  | undefinedBusCycle
  deriving DecidableEq, Repr

/-- The environment's free choice of the next transition when State lists none (R7 "in any
interleaving the environment chooses", R10; log 1 and log 2). Its argument is `State.draws`. -/
opaque Config.freeTransition : Nat → Transition

/-- The claim the pad holds after a `Reset()`: any value (R241, R242, 93 U10; log 6). Its argument is
`State.draws`. -/
opaque Config.freePadClaim : Nat → Claim

end Sys2Proof
end

