-- ==== Sys2Proof/Syntax.lean ====
section
/-! DEFINITION. The operations of the block, one constructor per row of spec/opcode_table.json, and the
pulse-train notation of 30_encoding.md R93. -/

namespace Sys2Proof

/-- The operations (R86, R87, R88). None has an operand. -/
inductive Instr where
  /-- `READ` (R110, R111) -/
  | read
  /-- `IDLE`, phase 0x0 (R114) -/
  | idle
  /-- `LINE_RESET`, phase 0x1 (R130) -/
  | lineReset
  /-- `CLAIM_OUT`, phase 0x2 (R131) -/
  | claimOut
  /-- `WAKE_HIGH`, phase 0x3 (R132) -/
  | wakeHigh
  /-- `WAKE_LOW`, phase 0x4 (R133) -/
  | wakeLow
  /-- `RELEASE_OUT`, phase 0x5 (R134) -/
  | releaseOut
  /-- `CLAIM_IN`, phase 0x6 (R135) -/
  | claimIn
  /-- `SETTLE`, phase 0x7 (R136) -/
  | settle
  /-- `ACK_WAIT`, phase 0x8 (R151) -/
  | ackWait
  /-- `SAMPLE_LOW`, phase 0x9 (R152) -/
  | sampleLow
  /-- `SAMPLE_HIGH`, phase 0xA (R153) -/
  | sampleHigh
  /-- `THRESHOLD`, phase 0xB (R170) -/
  | threshold
  /-- `RECONSTRUCT`, phase 0xC (R173) -/
  | reconstruct
  /-- `VALIDATE`, phase 0xD (R190) -/
  | validate
  /-- `CONVERT`, phase 0xE (R192) -/
  | convert
  /-- `FINISH`, phase 0xF (R195) -/
  | finish
  /-- `PAD_NONE`, pad command 0 (R137) -/
  | padNone
  /-- `PAD_RELEASE`, pad command 1 (R138) -/
  | padRelease
  /-- `PAD_CLAIM_OUT`, pad command 2 (R139) -/
  | padClaimOut
  /-- `PAD_CLAIM_IN`, pad command 3 (R140) -/
  | padClaimIn
  deriving DecidableEq, Repr

/-- A pulse train in the run-length notation of R93: `H initial`, then the runs
`L l1, H h1, …, L l41, H h41` in order (a low run first, levels alternating), then `L 1`. -/
structure PulseTrain where
  /-- `a`, the high samples before the first low one -/
  initial : Nat
  /-- `l1, h1, l2, h2, …` -/
  runs    : List Nat
  deriving DecidableEq, Repr

/-- The samples of alternating runs, the first at `level` (R93). -/
def alternatingRuns : Bool → List Nat → List Bool
  | _, [] => []
  | level, n :: rest => List.replicate n level ++ alternatingRuns (!level) rest

/-- The `din` values of a train (R93): `H a`, the runs, `L 1`. -/
def PulseTrain.samples (t : PulseTrain) : List Bool :=
  List.replicate t.initial true ++ alternatingRuns false t.runs ++ [false]

end Sys2Proof
end

