-- ==== Sys2Proof/WellFormed.lean ====
section
/-! DEFINITION. The checks on what is written: an operation code fits its format (R80), the parameters
meet R5, a pulse train is well-formed in the sense of R93. An `Instr` has no operand, so no check on it
can fail and there is none. -/

namespace Sys2Proof

/-- A code has no bit above its format's width (R80: every format is of fixed length). -/
def EncodedWord.wellFormed (e : EncodedWord) : Bool :=
  decide (e.bits < 2 ^ e.format.width)

/-- The constraints of R5: `TICKS_PER_MS ≥ 1`, `500 × TICKS_PER_MS < 2^32`, `1 ≤ N_SETTLE < 2^32`. -/
def Params.wellFormed (p : Params) : Bool :=
  decide (1 ≤ p.ticksPerMs) && decide (500 * p.ticksPerMs < 2 ^ 32) &&
    (decide (1 ≤ p.nSettle) && decide (p.nSettle < 2 ^ 32))

/-- A well-formed train has 41 windows, that is 82 runs, and every run has length at least 1 (R93). -/
def PulseTrain.wellFormed (t : PulseTrain) : Bool :=
  decide (t.runs.length = 82) && t.runs.all fun n => decide (1 ≤ n)

end Sys2Proof
end

