-- ==== Sys2Proof/Decode.lean ====
section
/-! DEFINITION. Decoding and encoding of the operation codes (30_encoding.md R86, R87, R88, R90, R91).
No byte order is involved: a code is a number with bit 0 its least significant bit (R12, R66). -/

namespace Sys2Proof

/-- Why a code is rejected. -/
inductive Reject where
  /-- a `CMD32` value other than `0x00000001` (R91) -/
  | reservedCommand
  /-- a bit set above the format's width (R80) -/
  | beyondFormat
  deriving DecidableEq, Repr

/-- Format `CMD32` (R87): `OP = 0x01` with `ZERO = 0` is `READ`; every other value is reserved (R91). -/
def decodeCmd32 (v : Word) : Option Instr :=
  if v = 0x00000001#32 then some .read else none

/-- Format `PHASE4` (R86), bit 3 first. Every code is assigned (R90). -/
def decodePhase4 (c : BitVec 4) : Instr :=
  match c.getLsbD 3, c.getLsbD 2, c.getLsbD 1, c.getLsbD 0 with
  | false, false, false, false => .idle
  | false, false, false, true  => .lineReset
  | false, false, true,  false => .claimOut
  | false, false, true,  true  => .wakeHigh
  | false, true,  false, false => .wakeLow
  | false, true,  false, true  => .releaseOut
  | false, true,  true,  false => .claimIn
  | false, true,  true,  true  => .settle
  | true,  false, false, false => .ackWait
  | true,  false, false, true  => .sampleLow
  | true,  false, true,  false => .sampleHigh
  | true,  false, true,  true  => .threshold
  | true,  true,  false, false => .reconstruct
  | true,  true,  false, true  => .validate
  | true,  true,  true,  false => .convert
  | true,  true,  true,  true  => .finish

/-- Format `PAD2` (R88), bit 1 first. Every code is assigned (R90). -/
def decodePad2 (c : BitVec 2) : Instr :=
  match c.getLsbD 1, c.getLsbD 0 with
  | false, false => .padNone
  | false, true  => .padRelease
  | true,  false => .padClaimOut
  | true,  true  => .padClaimIn

/-- Decoding of any number in any format: an operation, or a rejection by name. -/
def decode (e : EncodedWord) : Except Reject Instr :=
  if e.wellFormed then
    match e.format with
    | .cmd32 =>
      match decodeCmd32 (BitVec.ofNat 32 e.bits) with
      | some i => .ok i
      | none => .error .reservedCommand
    | .phase4 => .ok (decodePhase4 (BitVec.ofNat 4 e.bits))
    | .pad2 => .ok (decodePad2 (BitVec.ofNat 2 e.bits))
  else .error .beyondFormat

/-- The format the opcode table's rows of `nbits` bits are read in: 32 bits is `CMD32`, 2 bits is
`PAD2`. A row of 4 bits, or of 8 (4 bits rounded up to whole bytes), is read as `PHASE4`; a `PAD2` row
rounded up to 8 bits cannot be told from a `PHASE4` row of the same value (log 9). -/
def tableFormat (nbits : Nat) : Format :=
  if nbits ≤ 2 then .pad2 else if nbits ≤ 8 then .phase4 else .cmd32

/-- The operation the decoder reads from a row of the opcode table (its bits are `w`). -/
def decodeTableWord (nbits w : Nat) : Option Instr :=
  match decode ⟨tableFormat nbits, w⟩ with
  | .ok i => some i
  | .error _ => none

/-- The code of each operation (R86, R87, R88). -/
def encode : Instr → EncodedWord
  | .read        => ⟨.cmd32, 0x00000001⟩
  | .idle        => ⟨.phase4, 0x0⟩
  | .lineReset   => ⟨.phase4, 0x1⟩
  | .claimOut    => ⟨.phase4, 0x2⟩
  | .wakeHigh    => ⟨.phase4, 0x3⟩
  | .wakeLow     => ⟨.phase4, 0x4⟩
  | .releaseOut  => ⟨.phase4, 0x5⟩
  | .claimIn     => ⟨.phase4, 0x6⟩
  | .settle      => ⟨.phase4, 0x7⟩
  | .ackWait     => ⟨.phase4, 0x8⟩
  | .sampleLow   => ⟨.phase4, 0x9⟩
  | .sampleHigh  => ⟨.phase4, 0xA⟩
  | .threshold   => ⟨.phase4, 0xB⟩
  | .reconstruct => ⟨.phase4, 0xC⟩
  | .validate    => ⟨.phase4, 0xD⟩
  | .convert     => ⟨.phase4, 0xE⟩
  | .finish      => ⟨.phase4, 0xF⟩
  | .padNone     => ⟨.pad2, 0⟩
  | .padRelease  => ⟨.pad2, 1⟩
  | .padClaimOut => ⟨.pad2, 2⟩
  | .padClaimIn  => ⟨.pad2, 3⟩

end Sys2Proof
end

