-- ==== Sys2Proof/Machine/State.lean ====
section
/-! DEFINITION. The state (10_state.md R20 to R34), its reset values (R35, R240) and the reasons a step can
stop. The first part, `Block`, is everything the spec calls state of the block; the rest of `State` is
what a step must read or write outside it: the parameters (R5), the pins and the pad (R33, R137 to
R140), and the environment's transitions to come (R7). -/

namespace Sys2Proof.Machine

/-- `PHASE` (R21): the sixteen operations a tick can perform (R86). -/
inductive Phase where
  | idle
  | lineReset
  | claimOut
  | wakeHigh
  | wakeLow
  | releaseOut
  | claimIn
  | settle
  | ackWait
  | sampleLow
  | sampleHigh
  | threshold
  | reconstruct
  | validate
  | convert
  | finish
  deriving DecidableEq, Repr

/-- `ERR` (R23, R89). Codes 5 to 7 are reserved and never written, so they are left out (R90, 93 U14). -/
inductive ErrCode where
  | ok
  | timeout
  | checksumFail
  | gpioClaimFail
  /-- never raised by this hardware (R214) -/
  | invalidArgument
  deriving DecidableEq, Repr

/-- The architectural state of the block. -/
structure Block where
  /-- `PHASE` (R21) -/
  phase   : Phase
  /-- `IDX` (R22) -/
  idx     : BitVec 7
  /-- `BUSY` (R23) -/
  busy    : Bool
  /-- `DONE` (R23) -/
  done    : Bool
  /-- `ERR` (R23) -/
  err     : ErrCode
  /-- `HUM_X10` (R26) -/
  humX10  : BitVec 16
  /-- `TEMP_X10` (R27), two's complement -/
  tempX10 : BitVec 16
  /-- `TEMP_MAG` (R27) -/
  tempMag : BitVec 15
  /-- `TEMP_NEG` (R27) -/
  tempNeg : Bool
  /-- `PULSE[0..81]` (R20) -/
  pulse   : Vector Count 82
  /-- `FRAME[0..4]` (R28) -/
  frame   : Vector Byte 5
  /-- `SUM` (R29) -/
  sum     : BitVec 21
  /-- `THRESH` (R29) -/
  thresh  : Count
  /-- `ICNT` (R30) -/
  icnt    : Count
  /-- `WCNT` (R31) -/
  wcnt    : BitVec 32
  /-- `CLAIM` (R32) -/
  claim   : Claim
  /-- `LEVEL` (R32) -/
  level   : Bool
  deriving DecidableEq, Repr

/-- Every element after `Reset()` (R35): all zero. -/
def Block.reset : Block where
  phase   := .idle
  idx     := 0
  busy    := false
  done    := false
  err     := .ok
  humX10  := 0
  tempX10 := 0
  tempMag := 0
  tempNeg := false
  pulse   := Vector.replicate 82 0
  frame   := Vector.replicate 5 0
  sum     := 0
  thresh  := 0
  icnt    := 0
  wcnt    := 0
  claim   := .none
  level   := false

/-- The machine: the block, its parameters, its ports and its environment. -/
structure State where
  /-- the parameters (R5, R34); no step writes them (log 4) -/
  params   : Params
  /-- the architectural state (R20 to R32) -/
  blk      : Block
  /-- the claim the pad itself holds on the line (R137 to R140; log 5) -/
  padClaim : Claim
  /-- the pin `din` as last presented (R33; log 3) -/
  din      : Bool
  /-- the pin `pad_fail` as last presented (R33; log 3) -/
  padFail  : Bool
  /-- the host port's data as last returned by a `HostRead` (R33, R113; log 7) -/
  hostData : Word
  /-- the environment's events to come, the next one first (R7; log 1) -/
  agenda   : List Event
  /-- how many free values the environment has supplied (log 2) -/
  draws    : Nat
  deriving DecidableEq, Repr

/-- Why the machine stops. -/
inductive Fault where
  /-- Raised by `SAMPLE_LOW` and `SAMPLE_HIGH` for an access to `PULSE` beyond index 81, which does not
  exist (R62). No state reachable from reset raises it. Safe: the model stops. -/
  | indexBeyondBuffer
  deriving DecidableEq, Repr

/-- Why an event has no meaning. -/
inductive Refusal where
  /-- Raised by an arm of `exec` whose operation has no meaning yet (there is none). Safe. -/
  | notModelled (mnemonic : String)
  /-- Raised by `step` for a bus cycle that is not one whole register: R67 "a model refuses such an
  access (it has no meaning here)". Safe: the model stops. -/
  | undefinedBusCycle
  deriving DecidableEq, Repr

/-- The outcome of an operation or a step. -/
abbrev Result := Host.Outcome State Fault Refusal

/-- The machine right after reset: the block as R35 says; `N_SETTLE` and `ACK_IN_SUM` at their defaults
(R5). DESIGN CHOICE: `TICKS_PER_MS` = 1 (log 4), the pad holds no claim (log 5), the pins are low (log
3), the host data is 0 (log 7), the environment has nothing listed (log 1) and has drawn nothing (log 2). -/
def State.reset : State where
  params   := { ticksPerMs := 1, nSettle := 50, ackInSum := false }
  blk      := Block.reset
  padClaim := .none
  din      := false
  padFail  := false
  hostData := 0
  agenda   := []
  draws    := 0

end Sys2Proof.Machine
end

