-- ==== Sys2Proof/Machine/Flags.lean ====
section
/-! DEFINITION. The tests that decide a flag, a bit or an error: outcome codes and `STATUS` (R23, R25, R89),
the comparator (R174), the ceiling test (R154), the end of a fixed wait (R31), the checksum (R190, R191). -/

namespace Sys2Proof.Machine

/-- The outcome codes of `ERR[2:0]` (R89). -/
def ErrCode.code : ErrCode → BitVec 3
  | .ok              => 0
  | .timeout         => 1
  | .checksumFail    => 2
  | .gpioClaimFail   => 3
  | .invalidArgument => 4

/-- `zext_32({ERR[2:0], DONE, BUSY})` (R25, R113). -/
def Block.statusWord (b : Block) : Word :=
  (b.err.code ++ BitVec.ofBool b.done ++ BitVec.ofBool b.busy).setWidth 32

/-- The comparator (R174): `cmp(c, t) = 1 if c ≥ t else 0`, unsigned, equality gives 1. -/
def cmp (c t : Count) : Bool := decide (t.toNat ≤ c.toNat)

/-- The ceiling test (R154): counting one more sample makes the counter equal to `CEILING`. -/
def reachesCeiling (c : Count) : Bool := c.toNat + 1 == Config.ceiling

/-- A fixed wait of `n` ticks ends on the tick at which `WCNT + 1` equals `n` (R31). -/
def Block.waitEnds (b : Block) (n : Nat) : Bool := b.wcnt.toNat + 1 == n

/-- `(FRAME[0] + FRAME[1] + FRAME[2] + FRAME[3]) mod 256` (R190, R191): byte addition keeps bits 7:0. -/
def Block.checksum (b : Block) : Byte := b.frame[0] + b.frame[1] + b.frame[2] + b.frame[3]

/-- The checksum field equals the checksum (R85, R190). -/
def Block.checksumMatches (b : Block) : Bool := b.frame[4] == b.checksum

end Sys2Proof.Machine
end

