-- ==== Sys2Proof/Machine/Operands.lean ====
section
/-! DEFINITION. How operands are found and assembled: the buffer's index space (R62), the low counts of the
threshold sum (R170), the frame bits and their packing (R64, R82, R173), format `F40` and the humidity
and temperature operands (R81, R83, R84), the phase codes (R86) and the pad command a phase presents (R88). -/

namespace Sys2Proof.Machine

/-- `PULSE[i]` (R13, R20). Every use has `i ≤ 81`: a fixed index of R170 or R173, or `IDX` after its
range check. -/
def Block.countAt (b : Block) (i : Nat) : Count := b.pulse[i]?.getD 0

/-- `PULSE[i] <- v` (R13, R20), for `i ≤ 81`. -/
def Block.setCount (b : Block) (i : Nat) (v : Count) : Block :=
  { b with pulse := b.pulse.setIfInBounds i v }

/-- The index of window `w`'s low count, `w = 1..41` (R20, R62). -/
def lowIndex (w : Nat) : Nat := 2 * (w - 1)

/-- The index of window `w`'s high count, `w = 1..41` (R20, R62). -/
def highIndex (w : Nat) : Nat := 2 * (w - 1) + 1

/-- The sum of R170 before it is stored: the low counts of windows 2 to 41, and window 1's when
`ACK_IN_SUM = 1`. -/
def Block.lowSum (ackInSum : Bool) (b : Block) : Nat :=
  ((List.range Config.nDataBits).map fun k => (b.countAt (lowIndex (k + 2))).toNat).sum
    + (if ackInSum then (b.countAt (lowIndex 1)).toNat else 0)

/-- Frame bit `k`, `k = 0..39`, in transmission order: `cmp(PULSE[2k+3], THRESH)` (R12, R82, R173). -/
def Block.frameBit (b : Block) (k : Nat) : Bool := cmp (b.countAt (highIndex (k + 2))) b.thresh

/-- Eight bits, the first given to the most significant position (R64). -/
def packByte (bit : Nat → Bool) : Byte :=
  (List.range 8).foldl (fun acc m => acc <<< 1 ||| BitVec.setWidth 8 (BitVec.ofBool (bit m))) 0

/-- `FRAME[j]` as R173 builds it: bits `8j` to `8j + 7`, `8j` at position 7. -/
def Block.decodedByte (b : Block) (j : Nat) : Byte := packByte fun m => b.frameBit (8 * j + m)

/-- Format `F40` (R81): `{FRAME[0], …, FRAME[4]}`, `F[39]` received first. -/
def Block.f40 (b : Block) : BitVec 40 :=
  b.frame[0] ++ b.frame[1] ++ b.frame[2] ++ b.frame[3] ++ b.frame[4]

/-- The humidity operand `{FRAME[0], FRAME[1]}` (R65, R83). -/
def Block.humidity (b : Block) : BitVec 16 := b.frame[0] ++ b.frame[1]

/-- The sign bit `FRAME[2][7]` (R84). -/
def Block.tempSign (b : Block) : Bool := b.frame[2].getLsbD 7

/-- The magnitude `{FRAME[2][6:0], FRAME[3]}` (R84). -/
def Block.tempMagnitude (b : Block) : BitVec 15 := b.frame[2].extractLsb' 0 7 ++ b.frame[3]

/-- `TEMP_X10` (R192): the magnitude, negated modulo `0x10000` when the sign bit is set. -/
def Block.tempTwosComplement (b : Block) : BitVec 16 :=
  if b.tempSign then 0#16 - b.tempMagnitude.setWidth 16 else b.tempMagnitude.setWidth 16

/-- The code of a phase (R86). -/
def Phase.code : Phase → BitVec 4
  | .idle        => 0x0
  | .lineReset   => 0x1
  | .claimOut    => 0x2
  | .wakeHigh    => 0x3
  | .wakeLow     => 0x4
  | .releaseOut  => 0x5
  | .claimIn     => 0x6
  | .settle      => 0x7
  | .ackWait     => 0x8
  | .sampleLow   => 0x9
  | .sampleHigh  => 0xA
  | .threshold   => 0xB
  | .reconstruct => 0xC
  | .validate    => 0xD
  | .convert     => 0xE
  | .finish      => 0xF

/-- The phase of a code; every code is a phase (R21, R86), bit 3 first. -/
def Phase.ofCode (c : BitVec 4) : Phase :=
  match c.getLsbD 3, c.getLsbD 2, c.getLsbD 1, c.getLsbD 0 with
  | false, false, false, false => .idle
  | false, false, false, true  => .lineReset
  | false, false, true,  false => .claimOut
  | false, false, true,  true  => .wakeHigh
  | false, true,  false, false => .wakeLow
  | false, true,  false, true  => .releaseOut
  | false, true,  true,  false => .claimIn
  | false, true,  true,  true  => .settle
  | true,  false, false, false => .ackWait
  | true,  false, false, true  => .sampleLow
  | true,  false, true,  false => .sampleHigh
  | true,  false, true,  true  => .threshold
  | true,  true,  false, false => .reconstruct
  | true,  true,  false, true  => .validate
  | true,  true,  true,  false => .convert
  | true,  true,  true,  true  => .finish

/-- The `PAD2` code a phase presents on `pad_cmd` (R8, R88). -/
def Phase.padCmd : Phase → BitVec 2
  | .idle        => 0
  | .lineReset   => 1
  | .claimOut    => 2
  | .wakeHigh    => 0
  | .wakeLow     => 0
  | .releaseOut  => 1
  | .claimIn     => 3
  | .settle      => 0
  | .ackWait     => 0
  | .sampleLow   => 0
  | .sampleHigh  => 0
  | .threshold   => 0
  | .reconstruct => 0
  | .validate    => 0
  | .convert     => 0
  | .finish      => 1

/-- A phase that presents a given pad command (R88): the first of R88's row. -/
def Phase.presenting (c : BitVec 2) : Phase :=
  match c.getLsbD 1, c.getLsbD 0 with
  | false, false => .idle
  | false, true  => .lineReset
  | true,  false => .claimOut
  | true,  true  => .claimIn

end Sys2Proof.Machine
end

