-- ==== Sys2Proof/Machine/Ops.lean ====
section
/-! DEFINITION. The operations the meanings share: updates of the block, the abort (R215) and the start of a
transaction that recovers from it (R110, R218), fixed waits (R31), counting samples (R150, R154), the
pad (R137 to R140), reset (R240) and the outputs (R8, R33). -/

namespace Sys2Proof.Machine

/-- An operation that writes the block and nothing else. -/
def State.onBlock (s : State) (f : Block → Block) : State := { s with blk := f s.blk }

/-- One operation after another; a stop ends both. -/
def andThen {α β : Type} (o : Host.Outcome α Fault Refusal) (f : α → Host.Outcome β Fault Refusal) :
    Host.Outcome β Fault Refusal :=
  match o with
  | .next a => f a
  | .fault r => .fault r
  | .refused r => .refused r

/-! ### Taking an error and recovering from it -/

/-- `abort(code)` (R215): `ERR`, `BUSY`, `DONE` and `PHASE` are written and nothing else. -/
def Block.abort (code : ErrCode) (b : Block) : Block :=
  { b with err := code, busy := false, done := true, phase := .idle }

/-- `raise E` (R13): the abort, inside the tick that raises it. -/
def raise (code : ErrCode) (s : State) : Result := .next (s.onBlock (Block.abort code))

/-- The accepted `READ` (R110), which is also the recovery from an error (R218). `CLAIM` is kept. -/
def Block.startTransaction (b : Block) : Block :=
  { b with
    busy := true, done := false, err := .ok
    humX10 := 0, tempX10 := 0, tempMag := 0, tempNeg := false
    pulse := Vector.replicate 82 0
    frame := Vector.replicate 5 0
    sum := 0, thresh := 0, icnt := 0, wcnt := 0, idx := 0
    level := true
    phase := .lineReset }

/-! ### Fixed waits -/

/-- One tick of a fixed wait of `n` ticks (R31): count, or on the last tick write 0 back and do `onEnd`. -/
def timedWait (n : Nat) (onEnd : Block → Block) (s : State) : Result :=
  if s.blk.waitEnds n then .next (s.onBlock fun b => onEnd { b with wcnt := 0 })
  else .next (s.onBlock fun b => { b with wcnt := b.wcnt + 1 })

/-! ### Counting samples -/

/-- A sample at the level being counted (R150, R152, R153): `PULSE[IDX] <- PULSE[IDX] + 1`, and
`TIMEOUT` if that makes it `CEILING` (R154). -/
def countSample (s : State) : Result :=
  if s.blk.idx.toNat ≤ 81 then
    let counted := s.onBlock fun b => b.setCount b.idx.toNat (b.countAt b.idx.toNat + 1)
    if reachesCeiling (s.blk.countAt s.blk.idx.toNat) then raise .timeout counted else .next counted
  else .fault .indexBeyondBuffer

/-- A sample at the other level (R150, R152, R153): it is the first count of the next entry,
`PULSE[IDX + 1] <- 1; IDX <- IDX + 1`, and the phase changes. -/
def openNextCount (next : Phase) (s : State) : Result :=
  if s.blk.idx.toNat + 1 ≤ 81 then
    .next (s.onBlock fun b => { b.setCount (b.idx.toNat + 1) 1 with idx := b.idx + 1, phase := next })
  else .fault .indexBeyondBuffer

/-! ### The pad and the reset -/

/-- The pad answers a claim (R139, R140): granted with `pad_fail = 0`, no claim held with `pad_fail = 1`. -/
def padAnswersClaim (c : Claim) (s : State) : Result :=
  .next { s with padClaim := if s.padFail then .none else c }

/-- `Reset()` (R240): every element of the block to its reset value; no pad command is issued. What the
pad then holds is the environment's, any value (R241, R242, 93 U10; log 6). -/
def State.doReset (s : State) : State :=
  { s with blk := Block.reset, padClaim := Config.freePadClaim s.draws, draws := s.draws + 1 }

/-- The environment presents this tick's inputs on the pins (R7, R33). -/
def State.withPins (s : State) (din padFail : Bool) : State := { s with din := din, padFail := padFail }

/-! ### Outputs (Moore: functions of the state before the tick, R8) -/

/-- `pad_cmd[1:0]` (R8, R88). -/
def State.padCmd (s : State) : BitVec 2 := s.blk.phase.padCmd

/-- `pad_level = LEVEL` (R8). -/
def State.padLevel (s : State) : Bool := s.blk.level

/-- `busy = BUSY` (R8). -/
def State.busyOut (s : State) : Bool := s.blk.busy

/-- `done = DONE` (R8). -/
def State.doneOut (s : State) : Bool := s.blk.done

/-- What the pad does to the line during the next tick (R137): driven at `pad_level` while it holds an
output claim, otherwise not driven. -/
def State.lineDrive (s : State) : Option Bool :=
  match s.padClaim with
  | .out => some s.padLevel
  | .none => none
  | .inp => none

end Sys2Proof.Machine
end

