-- ==== Sys2Proof/Machine/HostCommands.lean ====
section
/-! DEFINITION. Host commands and host reads (40_host_commands.md): `READ`, `IDLE`, the value of a host
register, and the host's view of the end of a transaction (R115, R194). -/

namespace Sys2Proof.Machine

/-- `READ`: accepted with `BUSY = 0` (R110), dropped with `BUSY = 1` (R111). -/
def execRead (s : State) : Result :=
  if s.blk.busy then .next s else .next (s.onBlock Block.startTransaction)

/-- `IDLE` (R114): nothing. -/
def execIdle (s : State) : Result := .next s

/-- The value a `HostRead(n)` returns (R24 to R27, R61, R113). -/
def Block.readReg (b : Block) (n : Nat) : Word :=
  match n with
  | 1 => b.statusWord
  | 2 => b.humX10.setWidth 32
  | 3 => BitVec.ofBool b.tempNeg ++ b.tempMag ++ b.tempX10
  | _ => 0

/-- `HostRead(n)` (R113, R61): the value goes to the host; the block is not changed. -/
def hostRead (n : Nat) (s : State) : Result := .next { s with hostData := s.blk.readReg n }

/-- AQM's result as a host library gives it (R115), in exact tenths (R194). -/
inductive ReadResult where
  /-- humidity in tenths of a percent, temperature in tenths of a degree Celsius -/
  | success (humX10 : Nat) (tempX10 : Int)
  | failure (e : ErrCode)
  deriving DecidableEq, Repr

/-- The mapping of R115 and R194 from the three words a host reads; none until `DONE` is 1 (R247), and
none for an `ERR` code the block never writes (R89). -/
def hostResult (status hum temp : Word) : Option ReadResult :=
  if status.getLsbD 1 then
    match (status.extractLsb' 2 3).toNat with
    | 0 =>
      let mag : Int := (temp.extractLsb' 16 15).toNat
      some (.success (hum.extractLsb' 0 16).toNat (if temp.getLsbD 31 then -mag else mag))
    | 1 => some (.failure .timeout)
    | 2 => some (.failure .checksumFail)
    | 3 => some (.failure .gpioClaimFail)
    | _ => none
  else none

end Sys2Proof.Machine
end

