-- ==== Sys2Proof/Machine/LineControl.lean ====
section
/-! DEFINITION. Line control, AQM steps 1 to 3 (41_line_control.md R130 to R136). -/

namespace Sys2Proof.Machine

/-- `LINE_RESET` (R130). -/
def execLineReset (s : State) : Result :=
  .next (s.onBlock fun b => { b with claim := .none, phase := .claimOut })

/-- `CLAIM_OUT` (R131): refused by the pad, or output claimed. -/
def execClaimOut (s : State) : Result :=
  if s.padFail then raise .gpioClaimFail s
  else .next (s.onBlock fun b => { b with claim := .out, wcnt := 0, phase := .wakeHigh })

/-- `WAKE_HIGH` (R132): `N_WAKE_HIGH` ticks, then `LEVEL <- 0`. -/
def execWakeHigh (s : State) : Result :=
  timedWait s.params.nWakeHigh (fun b => { b with level := false, phase := .wakeLow }) s

/-- `WAKE_LOW` (R133): `N_WAKE_LOW` ticks. -/
def execWakeLow (s : State) : Result :=
  timedWait s.params.nWakeLow (fun b => { b with phase := .releaseOut }) s

/-- `RELEASE_OUT` (R134). -/
def execReleaseOut (s : State) : Result :=
  .next (s.onBlock fun b => { b with claim := .none, phase := .claimIn })

/-- `CLAIM_IN` (R135): refused by the pad, or input claimed. -/
def execClaimIn (s : State) : Result :=
  if s.padFail then raise .gpioClaimFail s
  else .next (s.onBlock fun b => { b with claim := .inp, wcnt := 0, phase := .settle })

/-- `SETTLE` (R136): `N_SETTLE` ticks; `din` is not sampled. -/
def execSettle (s : State) : Result :=
  timedWait s.params.nSettle (fun b => { b with phase := .ackWait }) s

end Sys2Proof.Machine
end

