-- ==== Sys2Proof/Machine/PadPort.lean ====
section
/-! DEFINITION. The pad commands: what the pad does at the end of a tick with the command presented in it
(41_line_control.md R137 to R140). They write the pad's claim and nothing of the block. -/

namespace Sys2Proof.Machine

/-- `PAD_NONE` (R137): the pad keeps whatever claim it holds. -/
def execPadNone (s : State) : Result := .next s

/-- `PAD_RELEASE` (R138): the pad holds no claim; it cannot fail. -/
def execPadRelease (s : State) : Result := .next { s with padClaim := .none }

/-- `PAD_CLAIM_OUT` (R139). -/
def execPadClaimOut (s : State) : Result := padAnswersClaim .out s

/-- `PAD_CLAIM_IN` (R140). -/
def execPadClaimIn (s : State) : Result := padAnswersClaim .inp s

end Sys2Proof.Machine
end

