-- ==== Sys2Proof/Machine/Reconstruct.lean ====
section
/-! DEFINITION. Adaptive threshold and bit reconstruction, AQM steps 6 and 7
(43_threshold_reconstruct.md R170, R173). -/

namespace Sys2Proof.Machine

/-- `THRESHOLD` (R170): `SUM <- s`, `THRESH <- s div 40` (floor, R172). -/
def execThreshold (s : State) : Result :=
  let total := s.blk.lowSum s.params.ackInSum
  .next (s.onBlock fun b =>
    { b with
      sum := BitVec.ofNat 21 total
      thresh := BitVec.ofNat 16 (total / Config.meanDivisor)
      phase := .reconstruct })

/-- `RECONSTRUCT` (R173): the five bytes of the frame, all from the same `THRESH`. -/
def execReconstruct (s : State) : Result :=
  .next (s.onBlock fun b =>
    { b with
      frame := #v[b.decodedByte 0, b.decodedByte 1, b.decodedByte 2, b.decodedByte 3, b.decodedByte 4]
      phase := .validate })

end Sys2Proof.Machine
end

