-- ==== Sys2Proof/Machine/Sampling.lean ====
section
/-! DEFINITION. Pulse sampling, AQM steps 4 and 5 (42_pulse_sampling.md R150 to R154). -/

namespace Sys2Proof.Machine

/-- `ACK_WAIT` (R151): count high samples in `ICNT` under the ceiling; the first low sample is the first
count of `PULSE[0]`. -/
def execAckWait (s : State) : Result :=
  if s.din then
    let counted := s.onBlock fun b => { b with icnt := b.icnt + 1 }
    if reachesCeiling s.blk.icnt then raise .timeout counted else .next counted
  else .next (s.onBlock fun b => { b.setCount 0 1 with idx := 0, phase := .sampleLow })

/-- `SAMPLE_LOW` (R152). -/
def execSampleLow (s : State) : Result :=
  if s.din then openNextCount .sampleHigh s else countSample s

/-- `SAMPLE_HIGH` (R153): the low sample that ends window 41 is seen and not stored. -/
def execSampleHigh (s : State) : Result :=
  if s.din then countSample s
  else if s.blk.idx = 81#7 then .next (s.onBlock fun b => { b with phase := .threshold })
  else openNextCount .sampleLow s

end Sys2Proof.Machine
end

