-- ==== Sys2Proof/Machine/Validate.lean ====
section
/-! DEFINITION. Checksum validation, unit conversion and the final release, AQM steps 8 and 9
(44_validate_convert.md R190, R192, R195). -/

namespace Sys2Proof.Machine

/-- `VALIDATE` (R190). -/
def execValidate (s : State) : Result :=
  if s.blk.checksumMatches then .next (s.onBlock fun b => { b with phase := .convert })
  else raise .checksumFail s

/-- `CONVERT` (R192): tenths, not clamped; the three temperature fields are written together. -/
def execConvert (s : State) : Result :=
  .next (s.onBlock fun b =>
    { b with
      humX10 := b.humidity
      tempNeg := b.tempSign
      tempMag := b.tempMagnitude
      tempX10 := b.tempTwosComplement
      phase := .finish })

/-- `FINISH` (R195): the end of a successful transaction. -/
def execFinish (s : State) : Result :=
  .next (s.onBlock fun b =>
    { b with claim := .none, err := .ok, busy := false, done := true, phase := .idle })

end Sys2Proof.Machine
end

