-- ==== Sys2Proof/Machine/Dispatch.lean ====
section
/-! DEFINITION. The meaning of every operation of spec/opcode_table.json, one arm each. -/

namespace Sys2Proof.Machine

def exec (i : Instr) (s : State) : Host.Outcome State Fault Refusal :=
  match i with
  | .read => Sys2Proof.Machine.execRead s
  | .idle => Sys2Proof.Machine.execIdle s
  | .lineReset => Sys2Proof.Machine.execLineReset s
  | .claimOut => Sys2Proof.Machine.execClaimOut s
  | .wakeHigh => Sys2Proof.Machine.execWakeHigh s
  | .wakeLow => Sys2Proof.Machine.execWakeLow s
  | .releaseOut => Sys2Proof.Machine.execReleaseOut s
  | .claimIn => Sys2Proof.Machine.execClaimIn s
  | .settle => Sys2Proof.Machine.execSettle s
  | .ackWait => Sys2Proof.Machine.execAckWait s
  | .sampleLow => Sys2Proof.Machine.execSampleLow s
  | .sampleHigh => Sys2Proof.Machine.execSampleHigh s
  | .threshold => Sys2Proof.Machine.execThreshold s
  | .reconstruct => Sys2Proof.Machine.execReconstruct s
  | .validate => Sys2Proof.Machine.execValidate s
  | .convert => Sys2Proof.Machine.execConvert s
  | .finish => Sys2Proof.Machine.execFinish s
  | .padNone => Sys2Proof.Machine.execPadNone s
  | .padRelease => Sys2Proof.Machine.execPadRelease s
  | .padClaimOut => Sys2Proof.Machine.execPadClaimOut s
  | .padClaimIn => Sys2Proof.Machine.execPadClaimIn s

end Sys2Proof.Machine
end

