-- ==== Sys2Proof/Machine/Transitions.lean ====
section
/-! DEFINITION. The atomic transitions (00_scope.md R7) over the operations: what a tick runs, what a host
write runs, and the events of the environment one after another (R71). -/

namespace Sys2Proof.Machine

/-- `HostWrite(n, v)`: a word written to register 0 is decoded as `CMD32` (R87) and run; a reserved word
changes nothing (R91), and a write to any other number changes nothing (R61). -/
def hostWrite (n : Nat) (v : Word) (s : State) : Result :=
  if n = 0 then
    match decodeCmd32 v with
    | some i => exec i s
    | none => .next s
  else .next s

/-- `Tick(din, pad_fail)` (R7, R8): the inputs are on the pins; the pad performs the command that `PHASE`
presents, the sequencer the operation that `PHASE` selects. Both read the state before the tick: the
pad writes its own claim only, the sequencer the block only (log 8). -/
def tick (din padFail : Bool) (s : State) : Result :=
  andThen (exec (decodePad2 s.padCmd) (s.withPins din padFail)) (exec (decodePhase4 s.blk.phase.code))

/-- One transition of R7. -/
def perform (t : Transition) (s : State) : Result :=
  match t with
  | .reset => .next s.doReset
  | .hostWrite n v => hostWrite n v s
  | .hostRead n => hostRead n s
  | .tick din padFail => tick din padFail s

/-- One event of the environment: a transition, or a bus cycle without a meaning (R67). -/
def handle (e : Event) (s : State) : Result :=
  match e with
  | .does t => perform t s
  | .undefinedBusCycle => .refused .undefinedBusCycle

/-- The step of the machine: the next event of the agenda, or, where none is listed, a transition of the
environment's free choice (R7, R10; log 1, log 2). -/
def stepOn (agenda : List Event) (s : State) : Result :=
  match agenda with
  | e :: rest => handle e { s with agenda := rest }
  | [] => perform (Config.freeTransition s.draws) { s with draws := s.draws + 1 }

/-- Transitions one after another (R71). -/
def performAll : List Transition → State → Result
  | [], s => .next s
  | t :: rest, s => andThen (perform t s) (performAll rest)

/-- Ticks one after another, each with its `din` and `pad_fail`. -/
def ticks : List (Bool × Bool) → State → Result
  | [], s => .next s
  | (d, f) :: rest, s => andThen (tick d f s) (ticks rest)

/-- Place a code where the next step fetches it. `CMD32`: the word is the next host write to register 0.
`PHASE4`: it is the value of `PHASE`, and the next event is a tick with the pins as they stand. `PAD2`:
`PHASE` presents it, and the next event is a tick. -/
def State.placeCode (s : State) (e : EncodedWord) : State :=
  match e.format with
  | .cmd32 => { s with agenda := .does (.hostWrite 0 (BitVec.ofNat 32 e.bits)) :: s.agenda }
  | .phase4 =>
    { s with
      blk := { s.blk with phase := Phase.ofCode (BitVec.ofNat 4 e.bits) }
      agenda := .does (.tick s.din s.padFail) :: s.agenda }
  | .pad2 =>
    { s with
      blk := { s.blk with phase := Phase.presenting (BitVec.ofNat 2 e.bits) }
      agenda := .does (.tick s.din s.padFail) :: s.agenda }

end Sys2Proof.Machine
end

