-- ==== Sys2Proof/Machine/Step.lean ====
section
/-! DEFINITION. The step function and how a program's code comes to be the next thing a step runs. -/

namespace Sys2Proof.Machine

/-- One step: one atomic transition (R7). -/
def step (s : State) : Host.Outcome State Fault Refusal := stepOn s.agenda s

/-- `s` with the row of the opcode table whose bits are `w` placed where the next step fetches it (log 9). -/
def State.withFetchWord (s : State) (nbits w : Nat) : State := s.placeCode ⟨tableFormat nbits, w⟩

end Sys2Proof.Machine
end

