-- ==== Sys2Proof/Safety.lean ====
section
/-! DEFINITION. The terms the claims use: the phase graph (R38), the invariants of R36 and what makes them
inductive, the states reachable from `Reset()`, what a train leaves in the buffer (R157), tick bounds
(R158, R252). -/

namespace Sys2Proof.Machine

/-! ### The phase graph -/

/-- The phases a tick can go to without raising an error (R38). -/
def Phase.successors : Phase → List Phase
  | .idle        => [.idle]
  | .lineReset   => [.claimOut]
  | .claimOut    => [.wakeHigh]
  | .wakeHigh    => [.wakeHigh, .wakeLow]
  | .wakeLow     => [.wakeLow, .releaseOut]
  | .releaseOut  => [.claimIn]
  | .claimIn     => [.settle]
  | .settle      => [.settle, .ackWait]
  | .ackWait     => [.ackWait, .sampleLow]
  | .sampleLow   => [.sampleLow, .sampleHigh]
  | .sampleHigh  => [.sampleHigh, .sampleLow, .threshold]
  | .threshold   => [.reconstruct]
  | .reconstruct => [.validate]
  | .validate    => [.convert]
  | .convert     => [.finish]
  | .finish      => [.idle]

/-- The error a tick of a phase can raise (R38, R210). -/
def Phase.raises : Phase → Option ErrCode
  | .claimOut   => some .gpioClaimFail
  | .claimIn    => some .gpioClaimFail
  | .ackWait    => some .timeout
  | .sampleLow  => some .timeout
  | .sampleHigh => some .timeout
  | .validate   => some .checksumFail
  | .idle | .lineReset | .wakeHigh | .wakeLow | .releaseOut | .settle | .threshold | .reconstruct
  | .convert | .finish => none

/-- A number that grows along the transaction: the phase's code (R86). -/
def Phase.rank (p : Phase) : Nat := p.code.toNat

/-- The phases that read `din` (R9). -/
def Phase.samples (p : Phase) : Prop := p = .ackWait ∨ p = .sampleLow ∨ p = .sampleHigh

/-- The claim recorded in each phase of a transaction (R36 j); in `IDLE` and `LINE_RESET` any claim an
earlier transaction left may stand. -/
def Phase.claimHeld : Phase → Option Claim
  | .idle | .lineReset => none
  | .claimOut | .claimIn => some .none
  | .wakeHigh | .wakeLow | .releaseOut => some .out
  | .settle | .ackWait | .sampleLow | .sampleHigh | .threshold | .reconstruct | .validate
  | .convert | .finish => some .inp

/-- How many ticks a fixed wait lasts (R132, R133, R136); 1 in a phase that does not wait, so that
"below it" says `WCNT = 0` there. -/
def Phase.waitLength (p : Params) : Phase → Nat
  | .wakeHigh => p.nWakeHigh
  | .wakeLow  => p.nWakeLow
  | .settle   => p.nSettle
  | .idle | .lineReset | .claimOut | .releaseOut | .claimIn | .ackWait | .sampleLow | .sampleHigh
  | .threshold | .reconstruct | .validate | .convert | .finish => 1

/-- The claim that stands after a transaction ended with each outcome (R32, R216). -/
def ErrCode.claimLeft : ErrCode → Claim
  | .ok              => .none
  | .timeout         => .inp
  | .checksumFail    => .inp
  | .gpioClaimFail   => .none
  | .invalidArgument => .none

/-! ### Invariants -/

/-- The eleven items (a) to (k) of R36. -/
structure Block.MeetsR36 (b : Block) : Prop where
  /-- (a) -/
  busy_iff_active : b.busy = true ↔ b.phase ≠ .idle
  /-- (b) -/
  not_busy_and_done : ¬ (b.busy = true ∧ b.done = true)
  /-- (c) -/
  error_means_done : b.err ≠ .ok → b.done = true
  /-- (d) -/
  error_in_range : b.err.code.toNat ≤ 3
  /-- (e) -/
  error_means_zero : b.err ≠ .ok → b.readReg 2 = 0 ∧ b.readReg 3 = 0
  /-- (f) -/
  index_parity : (b.phase = .sampleLow → b.idx.toNat % 2 = 0) ∧ (b.phase = .sampleHigh → b.idx.toNat % 2 = 1)
  /-- (f) -/
  index_in_buffer : b.idx.toNat ≤ 81
  /-- (g) -/
  counts_below_ceiling : b.busy = true → (∀ i, i ≤ 81 → (b.countAt i).toNat ≤ 35999) ∧ b.icnt.toNat ≤ 35999
  /-- (h) -/
  counts_while_sampling : b.phase = .sampleLow ∨ b.phase = .sampleHigh →
    ∀ i, i ≤ 81 → (i ≤ b.idx.toNat → 1 ≤ (b.countAt i).toNat) ∧ (b.idx.toNat < i → b.countAt i = 0)
  /-- (i) -/
  counts_when_decoding : Phase.threshold.rank ≤ b.phase.rank → ∀ i, i ≤ 81 → 1 ≤ (b.countAt i).toNat
  /-- (j) -/
  claim_in_phase : ∀ c, b.phase.claimHeld = some c → b.claim = c
  /-- (k) -/
  level_while_waking : b.phase = .lineReset ∨ b.phase = .claimOut ∨ b.phase = .wakeHigh → b.level = true

/-- R36 and what it needs to be kept by every transition. -/
structure Block.Inv (p : Params) (b : Block) : Prop extends Block.MeetsR36 b where
  /-- `WCNT` stays below its wait (R31, R132, R133, R136) -/
  wait_below_length : b.wcnt.toNat < b.phase.waitLength p
  /-- the buffer is clear from the accepted `READ` to the first sample (R110) -/
  counts_clear : b.phase ≠ .idle → b.phase.rank ≤ Phase.ackWait.rank → ∀ i, i ≤ 81 → b.countAt i = 0
  /-- `ICNT` is 0 until `ACK_WAIT` (R110, R136) -/
  initial_count_clear : b.phase ≠ .idle → b.phase.rank ≤ Phase.settle.rank → b.icnt = 0
  /-- no sum or threshold before `THRESHOLD` (R155) -/
  sum_clear : b.phase ≠ .idle → b.phase.rank ≤ Phase.threshold.rank → b.sum = 0 ∧ b.thresh = 0
  /-- no frame before `RECONSTRUCT` (R155) -/
  frame_clear : b.phase ≠ .idle → b.phase.rank ≤ Phase.reconstruct.rank → b.frame = Vector.replicate 5 0
  /-- no result before `CONVERT` (R110, R113) -/
  results_clear : b.phase ≠ .idle → b.phase ≠ .finish →
    b.humX10 = 0 ∧ b.tempX10 = 0 ∧ b.tempMag = 0 ∧ b.tempNeg = false
  /-- `LEVEL` is 0 from the end of `WAKE_HIGH` on (R133) -/
  level_after_waking : Phase.wakeLow.rank ≤ b.phase.rank → b.level = false
  /-- the claim an ended transaction left (R32, R216) -/
  claim_after_end : b.done = true → b.claim = b.err.claimLeft

/-- The invariant of the machine: the parameters meet R5, the block meets its invariant, and the pad holds
the claim the block recorded, except where a `Reset()` may have parted them (R242). -/
structure State.Inv (s : State) : Prop where
  params_ok : s.params.wellFormed = true
  block_ok : s.blk.Inv s.params
  pad_agrees : (∀ c, s.blk.phase.claimHeld = some c → s.padClaim = c) ∧
    (s.blk.done = true → s.padClaim = s.blk.claim)

/-- The states reachable from `Reset()` (R36): from a state whose block is as reset leaves it, under
well-formed parameters, whatever the pad holds and the environment has listed, by steps. -/
inductive Reachable : State → Prop where
  | afterReset (s : State) (hp : s.params.wellFormed = true) (hb : s.blk = Block.reset) : Reachable s
  | afterStep (s t : State) (h : Reachable s) (hs : step s = .next t) : Reachable t

/-! ### Trains and tick counts -/

/-- The buffer that holds the run lengths `runs` in its first entries and 0 in the rest (R157). -/
def pulseOfRuns (runs : List Nat) : Vector Count 82 :=
  Vector.ofFn fun i => BitVec.ofNat 16 (runs[i.val]?.getD 0)

/-- Every run of a train is short enough for its counter (R157): none reaches the ceiling. -/
def PulseTrainInRange (t : PulseTrain) : Prop :=
  t.wellFormed = true ∧ t.initial ≤ 35999 ∧ ∀ n ∈ t.runs, n ≤ 35999

/-- The level of run `k` of a train, `k = 0, 1, …`: low first (R93). -/
def runLevel (k : Nat) : Bool := k % 2 == 1

/-- Ticks from the accepted `READ` to the first `ACK_WAIT` tick (R252). -/
def fixedPart (p : Params) : Nat := 520 * p.ticksPerMs + p.nSettle + 4

/-- The most ticks sampling can take (R158): `83 × 35999 + 1`. -/
def samplingBound : Nat := 83 * 35999 + 1

/-- The most ticks a transaction can take (R158). -/
def transactionBound (p : Params) : Nat := 2 + 520 * p.ticksPerMs + 2 + p.nSettle + samplingBound + 5

/-- The claim ticks, the second and the `520 × TICKS_PER_MS + 4`th after the accepted `READ` (R252), are
granted wherever `ins` reaches them. -/
def claimsGranted (p : Params) (ins : List (Bool × Bool)) : Prop :=
  (ins[1]?.map Prod.snd) ≠ some true ∧ (ins[520 * p.ticksPerMs + 3]?.map Prod.snd) ≠ some true

/-- A transaction: the write of `READ`, then ticks. -/
def transaction (ins : List (Bool × Bool)) (s : State) : Result :=
  andThen (perform (.hostWrite 0 0x00000001#32) s) (ticks ins)

end Sys2Proof.Machine
end

