-- ==== Sys2Proof/Certificates/Slice0/Obligations.lean ====
section
/-! DEFINITION. The statements for the provers. Each follows a rule of spec/, named in its docstring. A
`Result` equation `exec i s = .next …` gives the result, the frame (what the record does not list is
unchanged) and the completion of the operation at once. -/

open Sys2Proof Sys2Proof.Machine

/-! ## Encoding -/

/-- R86, R87, R88: a code decodes to an operation exactly when it is that operation's code. -/
def Obligations.DecodeIsTheInverseOfEncode : Prop :=
  ∀ (e : EncodedWord) (i : Instr), decode e = .ok i ↔ e = encode i

/-- R87, R91: the only `CMD32` word that decodes is `0x00000001`; every other is rejected by name. -/
def Obligations.ReservedCommandWordsAreRejected : Prop :=
  ∀ n : Nat, n < 2 ^ 32 → n ≠ 1 → decode ⟨.cmd32, n⟩ = .error .reservedCommand

/-- Words written out from R86, R87 and R88. -/
def Obligations.TableWordsDecodeAsListed : Prop :=
  decode ⟨.cmd32, 0b00000000000000000000000000000001⟩ = .ok .read ∧
  decode ⟨.phase4, 0b0010⟩ = .ok .claimOut ∧
  decode ⟨.phase4, 0b1010⟩ = .ok .sampleHigh ∧
  decode ⟨.phase4, 0b1011⟩ = .ok .threshold ∧
  decode ⟨.phase4, 0b1101⟩ = .ok .validate ∧
  decode ⟨.pad2, 0b10⟩ = .ok .padClaimOut

/-- R88: each phase presents the pad command of R88's table, by code and by name, and R8: the outputs are
functions of the state alone (`PHASE`, `LEVEL`, `BUSY`, `DONE`). -/
def Obligations.OutputsFollowPhaseAndFlags : Prop :=
  (∀ s : State,
    s.padCmd = (match s.blk.phase with
      | .lineReset | .releaseOut | .finish => 1#2
      | .claimOut => 2#2
      | .claimIn => 3#2
      | _ => 0#2)) ∧
  (∀ s : State, decode ⟨.pad2, s.padCmd.toNat⟩ = .ok (match s.blk.phase with
      | .lineReset | .releaseOut | .finish => .padRelease
      | .claimOut => .padClaimOut
      | .claimIn => .padClaimIn
      | _ => .padNone)) ∧
  (∀ s : State, s.padLevel = s.blk.level ∧ s.busyOut = s.blk.busy ∧ s.doneOut = s.blk.done)

/-- R81 with R12, R64, R65: bit `39 - k` of `F40` is transmission bit `k`, and the fields lie where R81 puts
them: humidity in 39:24, sign in 23, magnitude in 22:8, checksum in 7:0. -/
def Obligations.FrameFieldsLieWhereTheFormatPutsThem : Prop :=
  ∀ b : Block,
    (∀ k, k < 40 → (b.frame[k / 8]?).map (fun f => f.getLsbD (7 - k % 8)) = some (b.f40.getLsbD (39 - k))) ∧
    b.humidity = b.f40.extractLsb' 24 16 ∧
    b.tempSign = b.f40.getLsbD 23 ∧
    b.tempMagnitude = b.f40.extractLsb' 8 15 ∧
    b.frame[4] = b.f40.extractLsb' 0 8

/-! ## Host commands -/

/-- R110. -/
def Obligations.ReadAcceptedClearsAndStarts : Prop :=
  ∀ s : State, s.blk.busy = false →
    let started : State :=
      { s with
        blk :=
          { phase := .lineReset, idx := 0, busy := true, done := false, err := .ok
            humX10 := 0, tempX10 := 0, tempMag := 0, tempNeg := false
            pulse := Vector.replicate 82 0, frame := Vector.replicate 5 0
            sum := 0, thresh := 0, icnt := 0, wcnt := 0
            claim := s.blk.claim, level := true } }
    exec .read s = .next started ∧ perform (.hostWrite 0 0x00000001#32) s = .next started

/-- R111. -/
def Obligations.ReadWhileBusyIsDropped : Prop :=
  ∀ s : State, s.blk.busy = true →
    exec .read s = .next s ∧ perform (.hostWrite 0 0x00000001#32) s = .next s

/-- R91. -/
def Obligations.ReservedCommandsChangeNothing : Prop :=
  ∀ (s : State) (v : Word), v ≠ 0x00000001#32 → perform (.hostWrite 0 v) s = .next s

/-- R61: the edges of the register space; no access stalls and none raises an error. -/
def Obligations.RegisterSpaceEdges : Prop :=
  ∀ (s : State) (n : Nat) (v : Word),
    (4 ≤ n → perform (.hostRead n) s = .next { s with hostData := 0 } ∧
      perform (.hostWrite n v) s = .next s) ∧
    (n = 1 ∨ n = 2 ∨ n = 3 → perform (.hostWrite n v) s = .next s) ∧
    perform (.hostRead 0) s = .next { s with hostData := 0 } ∧
    (∃ t, perform (.hostRead n) s = .next t ∧ t.blk = s.blk) ∧
    (∃ t, perform (.hostWrite n v) s = .next t ∧ (t.blk.err = s.blk.err ∨ t.blk.err = .ok))

/-- R113: what a `HostRead` returns, in numbers; it changes nothing of the block or the pad. In states that
meet the invariant, `HUM` and `TEMP` read 0 while busy up to the `CONVERT` tick, and after a failure. -/
def Obligations.HostReadReturnsTheRegister : Prop :=
  (∀ s : State,
    perform (.hostRead 0) s = .next { s with hostData := 0 } ∧
    perform (.hostRead 1) s = .next { s with hostData :=
      (BitVec.ofNat 32 (4 * s.blk.err.code.toNat + 2 * s.blk.done.toNat + s.blk.busy.toNat)) } ∧
    perform (.hostRead 2) s = .next { s with hostData := BitVec.ofNat 32 s.blk.humX10.toNat } ∧
    perform (.hostRead 3) s = .next { s with hostData :=
      (BitVec.ofNat 32 (2 ^ 31 * s.blk.tempNeg.toNat + 2 ^ 16 * s.blk.tempMag.toNat + s.blk.tempX10.toNat)) }) ∧
  (∀ s : State, s.Inv → (s.blk.busy = true ∧ s.blk.phase ≠ .finish ∨ s.blk.err ≠ .ok) →
    perform (.hostRead 2) s = .next { s with hostData := 0 } ∧
    perform (.hostRead 3) s = .next { s with hostData := 0 })

/-- R25: the layout of `STATUS`, and the six values a read of it can return. -/
def Obligations.StatusReadsOneOfSixValues : Prop :=
  ∀ s : State, Reachable s →
    let w := s.blk.readReg 1
    w.getLsbD 0 = s.blk.busy ∧ w.getLsbD 1 = s.blk.done ∧ w.extractLsb' 2 3 = s.blk.err.code ∧
    w.extractLsb' 5 27 = 0 ∧
    (w = 0x00 ∨ w = 0x01 ∨ w = 0x02 ∨ w = 0x06 ∨ w = 0x0A ∨ w = 0x0E) ∧
    (∀ v, perform (.hostWrite 1 v) s = .next s)

/-- R115 and R194: the host's reading of an ended transaction. That the payload of a success is in exact
integer tenths, negative zero and zero alike, is the model's choice (log 15). -/
def Obligations.HostResultOfAnEndedTransaction : Prop :=
  ∀ s : State, s.Inv → s.blk.done = true →
    hostResult (s.blk.readReg 1) (s.blk.readReg 2) (s.blk.readReg 3) =
      some (match s.blk.err with
        | .ok => .success s.blk.humX10.toNat
            (if s.blk.tempNeg then -(s.blk.tempMag.toNat : Int) else (s.blk.tempMag.toNat : Int))
        | e => .failure e)

/-- R114. -/
def Obligations.IdleTickChangesNothing : Prop :=
  ∀ s : State, exec .idle s = .next s ∧
    (s.blk.phase = .idle → s.padCmd = 0#2 ∧
      ∀ din padFail, perform (.tick din padFail) s = .next { s with din := din, padFail := padFail })

/-! ## Line control -/

/-- R130. -/
def Obligations.LineResetReleasesAnyClaim : Prop :=
  Phase.lineReset.code = 0x1#4 ∧ Phase.lineReset.padCmd = 1#2 ∧
  ∀ s : State, exec .lineReset s = .next { s with blk := { s.blk with claim := .none, phase := .claimOut } }

/-- R131. -/
def Obligations.ClaimOutTakesTheLineOrAborts : Prop :=
  Phase.claimOut.code = 0x2#4 ∧ Phase.claimOut.padCmd = 2#2 ∧
  (∀ s : State, s.padFail = true → exec .claimOut s =
    .next { s with blk := { s.blk with err := .gpioClaimFail, busy := false, done := true, phase := .idle } }) ∧
  (∀ s : State, s.padFail = false → exec .claimOut s =
    .next { s with blk := { s.blk with claim := .out, wcnt := 0, phase := .wakeHigh } }) ∧
  (∀ s : State, s.Inv → s.blk.phase = .claimOut → s.blk.claim = .none ∧ s.padLevel = true)

/-- R132: the rule of one tick, the phase's length, and what the pad drives. -/
def Obligations.WakeHighLastsItsTicks : Prop :=
  Phase.wakeHigh.code = 0x3#4 ∧ Phase.wakeHigh.padCmd = 0#2 ∧
  (∀ s : State, exec .wakeHigh s =
    if s.blk.wcnt.toNat + 1 = 500 * s.params.ticksPerMs
    then .next { s with blk := { s.blk with wcnt := 0, level := false, phase := .wakeLow } }
    else .next { s with blk := { s.blk with wcnt := s.blk.wcnt + 1 } }) ∧
  (∀ (s : State) (ins : List (Bool × Bool)), s.params.wellFormed = true → s.blk.phase = .wakeHigh →
    s.blk.wcnt = 0 → ins.length ≤ 500 * s.params.ticksPerMs →
    ∃ t, ticks ins s = .next t ∧
      t.blk = if ins.length = 500 * s.params.ticksPerMs
        then { s.blk with level := false, phase := .wakeLow }
        else { s.blk with wcnt := BitVec.ofNat 32 ins.length }) ∧
  (∀ s : State, s.Inv → s.blk.phase = .wakeHigh →
    s.lineDrive = some true ∧ s.blk.wcnt.toNat < 500 * s.params.ticksPerMs)

/-- R133: the rule of one tick, the phase's length, what the pad drives, and that only an accepted `READ`
sets `LEVEL` again. -/
def Obligations.WakeLowLastsItsTicks : Prop :=
  Phase.wakeLow.code = 0x4#4 ∧ Phase.wakeLow.padCmd = 0#2 ∧
  (∀ s : State, exec .wakeLow s =
    if s.blk.wcnt.toNat + 1 = 20 * s.params.ticksPerMs
    then .next { s with blk := { s.blk with wcnt := 0, phase := .releaseOut } }
    else .next { s with blk := { s.blk with wcnt := s.blk.wcnt + 1 } }) ∧
  (∀ (s : State) (ins : List (Bool × Bool)), s.params.wellFormed = true → s.blk.phase = .wakeLow →
    s.blk.wcnt = 0 → ins.length ≤ 20 * s.params.ticksPerMs →
    ∃ t, ticks ins s = .next t ∧
      t.blk = if ins.length = 20 * s.params.ticksPerMs
        then { s.blk with phase := .releaseOut }
        else { s.blk with wcnt := BitVec.ofNat 32 ins.length }) ∧
  (∀ s : State, s.Inv → s.blk.phase = .wakeLow → s.lineDrive = some false) ∧
  (∀ (s t : State) (r : Transition), s.blk.level = false → perform r s = .next t → t.blk.level = true →
    r = .hostWrite 0 0x00000001#32 ∧ s.blk.busy = false)

/-- R134, with its corner case: the pad still drives the line low during the tick. -/
def Obligations.ReleaseOutDropsTheOutputClaim : Prop :=
  Phase.releaseOut.code = 0x5#4 ∧ Phase.releaseOut.padCmd = 1#2 ∧
  (∀ s : State, exec .releaseOut s =
    .next { s with blk := { s.blk with claim := .none, phase := .claimIn } }) ∧
  (∀ s : State, s.Inv → s.blk.phase = .releaseOut → s.lineDrive = some false)

/-- R135. -/
def Obligations.ClaimInTakesTheLineOrAborts : Prop :=
  Phase.claimIn.code = 0x6#4 ∧ Phase.claimIn.padCmd = 3#2 ∧
  (∀ s : State, s.padFail = true → exec .claimIn s =
    .next { s with blk := { s.blk with err := .gpioClaimFail, busy := false, done := true, phase := .idle } }) ∧
  (∀ s : State, s.padFail = false → exec .claimIn s =
    .next { s with blk := { s.blk with claim := .inp, wcnt := 0, phase := .settle } }) ∧
  (∀ s : State, s.Inv → s.blk.phase = .claimIn → s.blk.claim = .none ∧ s.lineDrive = none)

/-- R136: the rule of one tick, and the phase's length, whatever the line does; `ICNT` is then 0. -/
def Obligations.SettleLastsItsTicks : Prop :=
  Phase.settle.code = 0x7#4 ∧ Phase.settle.padCmd = 0#2 ∧
  (∀ s : State, exec .settle s =
    if s.blk.wcnt.toNat + 1 = s.params.nSettle
    then .next { s with blk := { s.blk with wcnt := 0, phase := .ackWait } }
    else .next { s with blk := { s.blk with wcnt := s.blk.wcnt + 1 } }) ∧
  (∀ (s : State) (ins : List (Bool × Bool)), s.params.wellFormed = true → s.blk.phase = .settle →
    s.blk.wcnt = 0 → ins.length ≤ s.params.nSettle →
    ∃ t, ticks ins s = .next t ∧
      t.blk = if ins.length = s.params.nSettle
        then { s.blk with phase := .ackWait }
        else { s.blk with wcnt := BitVec.ofNat 32 ins.length }) ∧
  (∀ s : State, s.Inv → s.blk.phase = .settle → s.blk.icnt = 0)

/-! ## The pad port -/

/-- R137. -/
def Obligations.PadNoneKeepsTheClaim : Prop :=
  ∀ s : State, exec .padNone s = .next s ∧
    s.lineDrive = if s.padClaim = .out then some s.blk.level else none

/-- R138: released, not driving, idempotent, whatever `pad_fail` is. -/
def Obligations.PadReleaseDropsTheClaim : Prop :=
  ∀ s : State, ∃ t, exec .padRelease s = .next t ∧ t = { s with padClaim := .none } ∧
    t.lineDrive = none ∧ exec .padRelease t = .next t

/-- R139: granted or refused by `pad_fail`; issued only when no claim is held (in every state that meets
the invariant). The same effect with a claim already held is the model's choice (log 17). -/
def Obligations.PadClaimOutIsGrantedOrRefused : Prop :=
  (∀ s : State, s.padFail = false → ∃ t, exec .padClaimOut s = .next t ∧
    t = { s with padClaim := .out } ∧ t.lineDrive = some s.padLevel) ∧
  (∀ s : State, s.padFail = true → ∃ t, exec .padClaimOut s = .next t ∧
    t = { s with padClaim := .none } ∧ t.lineDrive = none) ∧
  (∀ s : State, s.Inv → s.padCmd = 2#2 → s.padClaim = .none)

/-- The pad's part of R140 (that `din` is then the line's level is the environment's, R10). The same effect
with a claim already held is the model's choice (log 17). -/
def Obligations.PadClaimInIsGrantedOrRefused : Prop :=
  (∀ s : State, s.padFail = false → exec .padClaimIn s = .next { s with padClaim := .inp }) ∧
  (∀ s : State, s.padFail = true → exec .padClaimIn s = .next { s with padClaim := .none }) ∧
  (∀ s : State, s.Inv → s.padCmd = 3#2 → s.padClaim = .none)

/-! ## Sampling -/

/-- R151. -/
def Obligations.AckWaitCountsHighSamples : Prop :=
  Phase.ackWait.code = 0x8#4 ∧ Phase.ackWait.padCmd = 0#2 ∧
  (∀ s : State, s.din = true → s.blk.icnt.toNat + 1 ≠ 36000 → exec .ackWait s =
    .next { s with blk := { s.blk with icnt := s.blk.icnt + 1 } }) ∧
  (∀ s : State, s.din = true → s.blk.icnt.toNat + 1 = 36000 → exec .ackWait s =
    .next { s with blk := { s.blk with
      icnt := 36000, err := .timeout, busy := false, done := true, phase := .idle } }) ∧
  (∀ s : State, s.din = false → exec .ackWait s =
    .next { s with blk := { s.blk with
      idx := 0, pulse := s.blk.pulse.set 0 1, phase := .sampleLow } })

/-- R152, for every `IDX` in the buffer. Beyond it the access does not exist (R62); that the operation then
stops is the model's choice (log 10), in states no run reaches. -/
def Obligations.SampleLowCountsLowSamples : Prop :=
  Phase.sampleLow.code = 0x9#4 ∧ Phase.sampleLow.padCmd = 0#2 ∧
  (∀ (s : State) (h : s.blk.idx.toNat < 82), s.din = false →
    (s.blk.pulse[s.blk.idx.toNat]).toNat + 1 ≠ 36000 → exec .sampleLow s =
    .next { s with blk := { s.blk with
      pulse := s.blk.pulse.set s.blk.idx.toNat (s.blk.pulse[s.blk.idx.toNat] + 1) } }) ∧
  (∀ (s : State) (h : s.blk.idx.toNat < 82), s.din = false →
    (s.blk.pulse[s.blk.idx.toNat]).toNat + 1 = 36000 → exec .sampleLow s =
    .next { s with blk := { s.blk with
      pulse := s.blk.pulse.set s.blk.idx.toNat 36000
      err := .timeout, busy := false, done := true, phase := .idle } }) ∧
  (∀ (s : State) (h : s.blk.idx.toNat + 1 < 82), s.din = true → exec .sampleLow s =
    .next { s with blk := { s.blk with
      pulse := s.blk.pulse.set (s.blk.idx.toNat + 1) 1
      idx := s.blk.idx + 1, phase := .sampleHigh } }) ∧
  (∀ s : State, s.din = false → 82 ≤ s.blk.idx.toNat → exec .sampleLow s = .fault .indexBeyondBuffer) ∧
  (∀ s : State, s.din = true → 82 ≤ s.blk.idx.toNat + 1 → exec .sampleLow s = .fault .indexBeyondBuffer)

/-- R153, likewise (log 10 for the stop); the low sample at `IDX = 81` is seen and not stored. -/
def Obligations.SampleHighCountsHighSamples : Prop :=
  Phase.sampleHigh.code = 0xA#4 ∧ Phase.sampleHigh.padCmd = 0#2 ∧
  (∀ (s : State) (h : s.blk.idx.toNat < 82), s.din = true →
    (s.blk.pulse[s.blk.idx.toNat]).toNat + 1 ≠ 36000 → exec .sampleHigh s =
    .next { s with blk := { s.blk with
      pulse := s.blk.pulse.set s.blk.idx.toNat (s.blk.pulse[s.blk.idx.toNat] + 1) } }) ∧
  (∀ (s : State) (h : s.blk.idx.toNat < 82), s.din = true →
    (s.blk.pulse[s.blk.idx.toNat]).toNat + 1 = 36000 → exec .sampleHigh s =
    .next { s with blk := { s.blk with
      pulse := s.blk.pulse.set s.blk.idx.toNat 36000
      err := .timeout, busy := false, done := true, phase := .idle } }) ∧
  (∀ s : State, s.din = false → s.blk.idx.toNat = 81 → exec .sampleHigh s =
    .next { s with blk := { s.blk with phase := .threshold } }) ∧
  (∀ (s : State) (h : s.blk.idx.toNat + 1 < 82), s.din = false → exec .sampleHigh s =
    .next { s with blk := { s.blk with
      pulse := s.blk.pulse.set (s.blk.idx.toNat + 1) 1
      idx := s.blk.idx + 1, phase := .sampleLow } }) ∧
  (∀ s : State, 82 ≤ s.blk.idx.toNat → exec .sampleHigh s = .fault .indexBeyondBuffer)

/-- R154: under the invariant, a tick raises `TIMEOUT` exactly when it increments a counter to 36000, and
that counter is then left at 36000; no other counter changes in that tick; a tick that does not leaves
every counter at 35999 or less. -/
def Obligations.TimeoutExactlyAtTheCeiling : Prop :=
  ∀ (s t : State) (din padFail : Bool), s.Inv → s.blk.busy = true →
    perform (.tick din padFail) s = .next t →
    (t.blk.err = .timeout ↔
      (s.blk.phase = .ackWait ∧ din = true ∧ s.blk.icnt.toNat = 35999) ∨
      (s.blk.phase = .sampleLow ∧ din = false ∧ (s.blk.countAt s.blk.idx.toNat).toNat = 35999) ∨
      (s.blk.phase = .sampleHigh ∧ din = true ∧ (s.blk.countAt s.blk.idx.toNat).toNat = 35999)) ∧
    (t.blk.err = .timeout →
      (s.blk.phase = .ackWait ∧ t.blk.icnt = 36000 ∧ t.blk.pulse = s.blk.pulse) ∨
      (s.blk.phase ≠ .ackWait ∧ t.blk.icnt = s.blk.icnt ∧ t.blk.countAt s.blk.idx.toNat = 36000 ∧
        ∀ i, i ≠ s.blk.idx.toNat → t.blk.countAt i = s.blk.countAt i)) ∧
    (t.blk.err ≠ .timeout →
      t.blk.icnt.toNat ≤ 35999 ∧ ∀ i, i ≤ 81 → (t.blk.countAt i).toNat ≤ 35999)

/-- R155: `THRESHOLD` is entered only with the buffer complete, and a timeout leaves nothing decoded. -/
def Obligations.BufferIsCompleteWhenDecodeProceeds : Prop :=
  ∀ (s t : State) (din padFail : Bool), s.Inv → s.blk.busy = true →
    perform (.tick din padFail) s = .next t →
    (t.blk.phase = .threshold → s.blk.phase = .sampleHigh ∧ s.blk.idx = 81 ∧
      ∀ i, i ≤ 81 → 1 ≤ (t.blk.countAt i).toNat ∧ (t.blk.countAt i).toNat ≤ 35999) ∧
    (t.blk.err = .timeout → t.blk.frame = Vector.replicate 5 0 ∧ t.blk.sum = 0 ∧ t.blk.thresh = 0 ∧
      t.blk.readReg 2 = 0 ∧ t.blk.readReg 3 = 0 ∧ t.blk.phase = .idle)

/-- R157: the run-length law, success and timeout. -/
def Obligations.SamplerRecordsRunLengths : Prop :=
  (∀ (s : State) (t : PulseTrain) (ins : List (Bool × Bool)),
    s.blk.phase = .ackWait → s.blk.icnt = 0 → s.blk.pulse = Vector.replicate 82 0 →
    PulseTrainInRange t → ins.map Prod.fst = t.samples →
    ins.length = t.initial + t.runs.sum + 1 ∧
    ∃ u, ticks ins s = .next u ∧ u.padClaim = s.padClaim ∧
      u.blk = { s.blk with
        icnt := BitVec.ofNat 16 t.initial, pulse := pulseOfRuns t.runs, idx := 81, phase := .threshold }) ∧
  (∀ (s : State) (a : Nat) (runs : List Nat) (ins : List (Bool × Bool)),
    s.blk.phase = .ackWait → s.blk.icnt = 0 → s.blk.pulse = Vector.replicate 82 0 →
    a ≤ 35999 → runs.length < 82 → (∀ n ∈ runs, 1 ≤ n ∧ n ≤ 35999) →
    ins.map Prod.fst = List.replicate a true ++ alternatingRuns false runs ++
      List.replicate 36000 (runLevel runs.length) →
    ∃ u, ticks ins s = .next u ∧ u.padClaim = s.padClaim ∧
      u.blk = { s.blk with
        icnt := BitVec.ofNat 16 a, pulse := pulseOfRuns (runs ++ [36000])
        idx := BitVec.ofNat 7 runs.length
        err := .timeout, busy := false, done := true, phase := .idle }) ∧
  (∀ (s : State) (ins : List (Bool × Bool)),
    s.blk.phase = .ackWait → s.blk.icnt = 0 → ins.map Prod.fst = List.replicate 36000 true →
    ∃ u, ticks ins s = .next u ∧ u.padClaim = s.padClaim ∧
      u.blk = { s.blk with
        icnt := 36000, err := .timeout, busy := false, done := true, phase := .idle })

/-- R156: `THRESHOLD` is reached by exactly the samples of a complete train in range, and a line that stays
at one level after 40 windows ends in `TIMEOUT`. -/
def Obligations.OnlyCompleteTrainsReachThreshold : Prop :=
  (∀ (s : State) (ins : List (Bool × Bool)), s.blk.phase = .ackWait → s.blk.icnt = 0 →
    ((∃ u, ticks ins s = .next u ∧ u.blk.phase = .threshold) ↔
      ∃ t : PulseTrain, PulseTrainInRange t ∧ ins.map Prod.fst = t.samples)) ∧
  (∀ (s : State) (a : Nat) (runs : List Nat) (level : Bool) (ins : List (Bool × Bool)),
    s.blk.phase = .ackWait → s.blk.icnt = 0 → runs.length = 80 → (∀ n ∈ runs, 1 ≤ n) →
    ins.map Prod.fst = List.replicate a true ++ alternatingRuns false runs ++ List.replicate 36000 level →
    ∃ u, ticks ins s = .next u ∧ u.blk.err = .timeout ∧ u.blk.done = true ∧ u.blk.busy = false ∧
      u.blk.phase = .idle)

/-- R158: sampling, and a whole transaction, end within their bounds whatever the line does. -/
def Obligations.TransactionsEndWithinTheBound : Prop :=
  (∀ (s : State) (ins : List (Bool × Bool)), s.blk.phase = .ackWait → s.blk.icnt = 0 →
    ins.length = samplingBound →
    ∃ n u, n ≤ samplingBound ∧ ticks (ins.take n) s = .next u ∧ ¬ u.blk.phase.samples) ∧
  (∀ (s : State) (ins : List (Bool × Bool)), s.params.wellFormed = true → s.blk.busy = false →
    ins.length = transactionBound s.params →
    ∃ n u, n ≤ transactionBound s.params ∧ transaction (ins.take n) s = .next u ∧
      u.blk.done = true ∧ u.blk.busy = false)

/-! ## Threshold and reconstruction -/

/-- R170: the floor of the sum over 40, window 1 only with `ACK_IN_SUM = 1`. -/
def Obligations.ThresholdIsTheFlooredMean : Prop :=
  Phase.threshold.code = 0xB#4 ∧ Phase.threshold.padCmd = 0#2 ∧
  ∀ s : State, ∃ t, exec .threshold s = .next t ∧
    t = { s with blk := { s.blk with sum := t.blk.sum, thresh := t.blk.thresh, phase := .reconstruct } } ∧
    ((∀ i, i ≤ 81 → (s.blk.countAt i).toNat ≤ 35999) →
      t.blk.sum.toNat = (Finset.range 40).sum (fun j => (s.blk.countAt (2 * (j + 1))).toNat)
        + (if s.params.ackInSum = true then (s.blk.countAt 0).toNat else 0) ∧
      t.blk.thresh.toNat = t.blk.sum.toNat / 40)

/-- R171: the ranges of `SUM` and `THRESH`. -/
def Obligations.ThresholdStaysInRange : Prop :=
  ∀ s : State, (∀ i, i ≤ 81 → 1 ≤ (s.blk.countAt i).toNat ∧ (s.blk.countAt i).toNat ≤ 35999) →
    ∃ t, exec .threshold s = .next t ∧
      (s.params.ackInSum = false → 40 ≤ t.blk.sum.toNat ∧ t.blk.sum.toNat ≤ 1439960 ∧
        1 ≤ t.blk.thresh.toNat ∧ t.blk.thresh.toNat ≤ 35999) ∧
      (s.params.ackInSum = true → 41 ≤ t.blk.sum.toNat ∧ t.blk.sum.toNat ≤ 1475959 ∧
        1 ≤ t.blk.thresh.toNat ∧ t.blk.thresh.toNat ≤ 36898)

/-- R173 with R174: every bit of the new frame, most significant first. -/
def Obligations.ReconstructPacksBitsMsbFirst : Prop :=
  Phase.reconstruct.code = 0xC#4 ∧ Phase.reconstruct.padCmd = 0#2 ∧
  ∀ s : State, ∃ t, exec .reconstruct s = .next t ∧
    t = { s with blk := { s.blk with frame := t.blk.frame, phase := .validate } } ∧
    ∀ k, k < 40 → (t.blk.frame[k / 8]?).map (fun f => f.getLsbD (7 - k % 8)) =
      some (decide (s.blk.thresh.toNat ≤ (s.blk.countAt (2 * k + 3)).toNat))

/-- R175: a high count at most half of `SUM / 40` reads 0 and one at least one and a half times it reads 1,
in both settings of `ACK_IN_SUM`. -/
def Obligations.WellSeparatedPulsesReadCorrectly : Prop :=
  ∀ (s : State) (k : Nat), k < 40 →
    (∀ i, i ≤ 81 → 1 ≤ (s.blk.countAt i).toNat ∧ (s.blk.countAt i).toNat ≤ 35999) →
    ∃ t, andThen (exec .threshold s) (exec .reconstruct) = .next t ∧
      let total := (Finset.range 40).sum (fun j => (s.blk.countAt (2 * (j + 1))).toNat)
        + (if s.params.ackInSum = true then (s.blk.countAt 0).toNat else 0)
      let high := (s.blk.countAt (2 * k + 3)).toNat
      (80 * high ≤ total → (t.blk.frame[k / 8]?).map (fun f => f.getLsbD (7 - k % 8)) = some false) ∧
      (3 * total ≤ 80 * high → (t.blk.frame[k / 8]?).map (fun f => f.getLsbD (7 - k % 8)) = some true)

/-! ## Validation and conversion -/

/-- R190; the registers the host reads are still 0 and the line still claimed as input. -/
def Obligations.ValidateComparesTheChecksum : Prop :=
  Phase.validate.code = 0xD#4 ∧ Phase.validate.padCmd = 0#2 ∧
  ∀ s : State,
    let c := (s.blk.frame[0].toNat + s.blk.frame[1].toNat + s.blk.frame[2].toNat + s.blk.frame[3].toNat) % 256
    (s.blk.frame[4].toNat = c → exec .validate s = .next { s with blk := { s.blk with phase := .convert } }) ∧
    (s.blk.frame[4].toNat ≠ c → exec .validate s = .next { s with blk := { s.blk with
      err := .checksumFail, busy := false, done := true, phase := .idle } }) ∧
    (s.Inv → s.blk.phase = .validate → s.blk.readReg 2 = 0 ∧ s.blk.readReg 3 = 0 ∧ s.blk.claim = .inp)

/-- R192. -/
def Obligations.ConvertDeliversTenths : Prop :=
  Phase.convert.code = 0xE#4 ∧ Phase.convert.padCmd = 0#2 ∧
  ∀ s : State, ∃ t, exec .convert s = .next t ∧
    t = { s with blk := { s.blk with
      humX10 := t.blk.humX10, tempNeg := t.blk.tempNeg, tempMag := t.blk.tempMag
      tempX10 := t.blk.tempX10, phase := .finish } } ∧
    t.blk.humX10.toNat = s.blk.frame[0].toNat * 256 + s.blk.frame[1].toNat ∧
    (t.blk.tempNeg = true ↔ 128 ≤ s.blk.frame[2].toNat) ∧
    (let m := (s.blk.frame[2].toNat % 128) * 256 + s.blk.frame[3].toNat
     t.blk.tempMag.toNat = m ∧
     t.blk.tempX10.toNat = if 128 ≤ s.blk.frame[2].toNat then (0x10000 - m) % 0x10000 else m) ∧
    t.blk.tempX10 ≠ 0x8000

/-- R193: read as a signed number, `TEMP_X10` is the magnitude with the frame's sign. -/
def Obligations.ConvertedTemperatureIsSignedMagnitude : Prop :=
  ∀ s : State, ∃ t, exec .convert s = .next t ∧
    (t.blk.tempX10.signExtend 32).toInt =
      if t.blk.tempNeg = true then -(t.blk.tempMag.toNat : Int) else (t.blk.tempMag.toNat : Int)

/-- R195. -/
def Obligations.FinishReleasesAndReportsSuccess : Prop :=
  Phase.finish.code = 0xF#4 ∧ Phase.finish.padCmd = 1#2 ∧
  ∀ s : State, exec .finish s = .next { s with blk := { s.blk with
    claim := .none, err := .ok, busy := false, done := true, phase := .idle } }

/-- R197 with R195 and R215: from a cleared sampler, a train that encodes five bytes ends in success with
the converted values, or, when the fifth byte is not the checksum, in `CHECKSUM_FAIL` with nothing delivered. -/
def Obligations.EncodedFrameRoundTrips : Prop :=
  ∀ (s : State) (t : PulseTrain) (b0 b1 b2 b3 b4 : Byte) (ins : List (Bool × Bool)),
    s.Inv → s.blk.phase = .ackWait → s.blk.icnt = 0 → PulseTrainInRange t →
    (let low (i : Nat) := t.runs[2 * i]?.getD 0
     let thr := ((Finset.range 40).sum (fun j => low (j + 1)) + (if s.params.ackInSum = true then low 0 else 0)) / 40
     let bytes : Vector Byte 5 := #v[b0, b1, b2, b3, b4]
     ∀ k, k < 40 → ((bytes[k / 8]?).map (fun f => f.getLsbD (7 - k % 8)) =
       some (decide (thr ≤ t.runs[2 * k + 3]?.getD 0)))) →
    (b4.toNat = (b0.toNat + b1.toNat + b2.toNat + b3.toNat) % 256 →
      ins.length = t.samples.length + 5 → (ins.take t.samples.length).map Prod.fst = t.samples →
      ∃ u, ticks ins s = .next u ∧ u.blk.done = true ∧ u.blk.busy = false ∧ u.blk.err = .ok ∧
        u.blk.claim = .none ∧ u.blk.humX10.toNat = b0.toNat * 256 + b1.toNat ∧
        u.blk.tempNeg = b2.getLsbD 7 ∧ u.blk.tempMag.toNat = (b2.toNat % 128) * 256 + b3.toNat) ∧
    (b4.toNat ≠ (b0.toNat + b1.toNat + b2.toNat + b3.toNat) % 256 →
      ins.length = t.samples.length + 3 → (ins.take t.samples.length).map Prod.fst = t.samples →
      ∃ u, ticks ins s = .next u ∧ u.blk.done = true ∧ u.blk.busy = false ∧ u.blk.err = .checksumFail ∧
        u.blk.claim = .inp ∧ u.blk.readReg 2 = 0 ∧ u.blk.readReg 3 = 0)

/-! ## Errors and reset -/

/-- R215: what an abort writes and what it keeps. -/
def Obligations.AbortWritesOnlyTheOutcome : Prop :=
  ∀ (code : ErrCode) (s : State), raise code s =
    .next { s with blk := { s.blk with err := code, busy := false, done := true, phase := .idle } }

/-- R216: the line after an abort; it is never left driven. -/
def Obligations.LineAfterAnAbort : Prop :=
  ∀ (s t : State) (din padFail : Bool), s.Inv → s.blk.busy = true →
    perform (.tick din padFail) s = .next t → t.blk.err ≠ .ok →
    ((t.blk.err = .timeout ∨ t.blk.err = .checksumFail) ∧ t.blk.claim = .inp ∧ t.padClaim = .inp ∨
      t.blk.err = .gpioClaimFail ∧ t.blk.claim = .none ∧ t.padClaim = .none) ∧
    t.lineDrive = none

/-- R35, R240: `Reset()` from any state, and `State.reset`. What the pad then holds is a free value
(log 6): nothing is said of it. -/
def Obligations.ResetClearsEveryElement : Prop :=
  (∀ s : State, ∃ t, perform .reset s = .next t ∧
    t.blk =
      { phase := .idle, idx := 0, busy := false, done := false, err := .ok
        humX10 := 0, tempX10 := 0, tempMag := 0, tempNeg := false
        pulse := Vector.replicate 82 0, frame := Vector.replicate 5 0
        sum := 0, thresh := 0, icnt := 0, wcnt := 0, claim := .none, level := false } ∧
    t.params = s.params ∧ t.agenda = s.agenda ∧ t.din = s.din ∧ t.padFail = s.padFail ∧
    t.hostData = s.hostData ∧ t.padCmd = 0#2) ∧
  State.reset.blk = Block.reset

/-- R213, R252: a refused claim ends the transaction after 2 ticks (the first claim) or
`520 × TICKS_PER_MS + 4` ticks (the second). -/
def Obligations.RefusedClaimsEndTheTransaction : Prop :=
  (∀ (s : State) (d0 f0 d1 : Bool), s.blk.busy = false →
    ∃ u, transaction [(d0, f0), (d1, true)] s = .next u ∧ u.blk.err = .gpioClaimFail ∧ u.blk.done = true ∧
      u.blk.busy = false ∧ u.blk.claim = .none ∧ u.padClaim = .none ∧ u.blk.level = true) ∧
  (∀ (s : State) (ins : List (Bool × Bool)), s.params.wellFormed = true → s.blk.busy = false →
    ins.length = 520 * s.params.ticksPerMs + 4 → ins[1]?.map Prod.snd = some false →
    ins[520 * s.params.ticksPerMs + 3]?.map Prod.snd = some true →
    ∃ u, transaction ins s = .next u ∧ u.blk.err = .gpioClaimFail ∧ u.blk.done = true ∧
      u.blk.busy = false ∧ u.blk.claim = .none ∧ u.padClaim = .none ∧ u.blk.level = false)

/-! ## The machine as a whole -/

/-- R7, R71: a step runs the operations its event decodes to: a host write of a decodable word runs that
operation, a tick runs the pad command and the operation of the phase, on the state with the event taken
off the agenda; the other events do what R61, R91, R113, R240 and R67 say. That events stand on an agenda and
that the pad's operation runs first are the model's choices (log 1, log 8). -/
def Obligations.StepRunsTheDecodedOperation : Prop :=
  ∀ (s : State) (rest : List Event),
    (∀ v i, s.agenda = .does (.hostWrite 0 v) :: rest → decode ⟨.cmd32, v.toNat⟩ = .ok i →
      step s = exec i { s with agenda := rest }) ∧
    (∀ din padFail i j, s.agenda = .does (.tick din padFail) :: rest →
      decode ⟨.phase4, s.blk.phase.code.toNat⟩ = .ok i → decode ⟨.pad2, s.padCmd.toNat⟩ = .ok j →
      step s = andThen (exec j { s with agenda := rest, din := din, padFail := padFail }) (exec i)) ∧
    (∀ n, s.agenda = .does (.hostRead n) :: rest →
      step s = .next { s with agenda := rest, hostData := s.blk.readReg n }) ∧
    (s.agenda = .does .reset :: rest → ∃ t, step s = .next t ∧ t.blk = Block.reset ∧ t.agenda = rest) ∧
    (s.agenda = .undefinedBusCycle :: rest → step s = .refused .undefinedBusCycle)

/-- R71: stepping through listed transitions is performing them one after another; the agenda, the model's
own field (log 1), only waits. -/
def Obligations.StepsFollowTheAgenda : Prop :=
  ∀ (ts : List Transition) (rest : List Event) (s : State), s.agenda = ts.map Event.does ++ rest →
    Host.Core.run Sys2Proof.core ts.length s = performAll ts { s with agenda := rest }

/-- R9: `din` matters only in the sampling phases, `pad_fail` only in the two claims. -/
def Obligations.InputsAreReadOnlyWhereStated : Prop :=
  (∀ (s t : State) (d d' f : Bool), ¬ s.blk.phase.samples → perform (.tick d f) s = .next t →
    perform (.tick d' f) s = .next { t with din := d' }) ∧
  (∀ (s t : State) (d f f' : Bool), s.blk.phase ≠ .claimOut → s.blk.phase ≠ .claimIn →
    perform (.tick d f) s = .next t → perform (.tick d f') s = .next { t with padFail := f' })

/-- R38: the phase graph; every exit to `IDLE` but `FINISH`'s carries the error its phase raises, and the
host moves `PHASE` only from `IDLE` to `LINE_RESET`. -/
def Obligations.PhaseFollowsTheGraph : Prop :=
  (∀ (s t : State) (din padFail : Bool), perform (.tick din padFail) s = .next t →
    t.blk.phase ∈ s.blk.phase.successors ∨
      (∃ e, s.blk.phase.raises = some e ∧ t.blk.phase = .idle ∧ t.blk.err = e ∧ t.blk.done = true)) ∧
  (∀ (s t : State) (n : Nat) (v : Word), s.Inv → perform (.hostWrite n v) s = .next t →
    t.blk.phase = s.blk.phase ∨ (n = 0 ∧ v = 0x00000001#32 ∧ s.blk.phase = .idle ∧ t.blk.phase = .lineReset)) ∧
  (∀ (s t : State) (n : Nat), perform (.hostRead n) s = .next t → t.blk.phase = s.blk.phase)

/-- R111, R61, R142: no host access changes anything of a busy block, its pad or its pins. -/
def Obligations.BusyBlockIgnoresTheHost : Prop :=
  ∀ (s : State) (n : Nat) (v : Word), s.blk.busy = true →
    perform (.hostWrite n v) s = .next s ∧
    perform (.hostRead n) s = .next { s with hostData := s.blk.readReg n }

/-- R37, R23: between transactions the block keeps everything; only `READ` and `Reset()` change it. -/
def Obligations.EndedTransactionIsKept : Prop :=
  ∀ (s t : State) (r : Transition), s.Inv → s.blk.busy = false → perform r s = .next t →
    t.blk = s.blk ∨ r = .reset ∨ r = .hostWrite 0 0x00000001#32

/-- R5, R34: no step writes a parameter (that they stand in State is log 4). -/
def Obligations.ParametersNeverChange : Prop :=
  ∀ s t : State, step s = .next t → t.params = s.params

/-- Every step keeps the invariant, whatever the environment does. -/
def Obligations.StepKeepsTheInvariant : Prop :=
  ∀ s t : State, s.Inv → step s = .next t → t.Inv

/-- The state after reset meets the invariant; its `TICKS_PER_MS` and its pad claim are the model's choices
(log 4, log 5). -/
def Obligations.ResetStateMeetsTheInvariant : Prop := State.reset.Inv

/-- R36: its eleven items in every reachable state. -/
def Obligations.ReachableStatesMeetTheListedInvariants : Prop :=
  ∀ s : State, Reachable s → s.blk.MeetsR36

/-- In a state that meets the invariant a step always completes, unless the environment presents a bus
cycle that has no meaning (R67). -/
def Obligations.InvariantStatesNeverStop : Prop :=
  ∀ s : State, s.Inv → (∀ rest, s.agenda ≠ .undefinedBusCycle :: rest) → ∃ t, step s = .next t

/-- R196: the block after a transaction's ticks does not depend on the state before its `READ`. -/
def Obligations.OutcomeIndependentOfEarlierState : Prop :=
  ∀ (s₁ s₂ t₁ : State) (ins : List (Bool × Bool)), s₁.params = s₂.params →
    s₁.blk.busy = false → s₂.blk.busy = false → ins ≠ [] → transaction ins s₁ = .next t₁ →
    ∃ t₂, transaction ins s₂ = .next t₂ ∧ t₂.blk = t₁.blk

/-- R69, R196: host reads, however many and wherever they fall, change nothing but the host's own data. -/
def Obligations.HostReadsDisturbNothing : Prop :=
  ∀ (ts : List Transition) (s t : State), performAll ts s = .next t →
    ∃ t', performAll (ts.filter fun x => match x with | .hostRead _ => false | _ => true) s = .next t' ∧
      t = { t' with hostData := t.hostData }

/-- R142: what the line sees of one transaction, tick by tick, with every claim granted, and that no host
write changes a busy block. The branch for no tick yet and an output claim still on the pad is not R142's:
where a `Reset()` left the pad driving (R242), it drives at `LEVEL` (R137), which `READ` set (R110), until
the `LINE_RESET` tick has ended. -/
def Obligations.LineSeesTheWakeSequence : Prop :=
  (∀ (s : State) (n : Nat) (v : Word), s.blk.busy = true → perform (.hostWrite n v) s = .next s) ∧
  ∀ (s : State) (ins : List (Bool × Bool)), s.params.wellFormed = true → s.blk.busy = false →
    claimsGranted s.params ins →
    ∃ u, transaction ins s = .next u ∧
      u.lineDrive =
        if ins.length < 1 ∧ s.padClaim = .out then some true
        else if ins.length < 2 then none
        else if ins.length < 2 + 500 * s.params.ticksPerMs then some true
        else if ins.length < 2 + 500 * s.params.ticksPerMs + (20 * s.params.ticksPerMs + 1) then some false
        else none

/-- R252: the number of ticks from the accepted `READ` to `DONE = 1` with every claim granted and a
well-formed train in range: `520 × TICKS_PER_MS + N_SETTLE + S + 9` on success, two fewer on a checksum
failure, and no earlier tick ends the transaction. -/
def Obligations.TransactionTickCount : Prop :=
  ∀ (s : State) (t : PulseTrain) (ins : List (Bool × Bool)), s.params.wellFormed = true → s.blk.busy = false →
    PulseTrainInRange t → claimsGranted s.params ins →
    ins.length = fixedPart s.params + t.samples.length + 5 →
    ((ins.drop (fixedPart s.params)).take t.samples.length).map Prod.fst = t.samples →
    ∃ n u, transaction (ins.take n) s = .next u ∧ u.blk.done = true ∧
      (u.blk.err = .ok ∧ n = 520 * s.params.ticksPerMs + s.params.nSettle + t.samples.length + 9 ∨
        u.blk.err = .checksumFail ∧ n = 520 * s.params.ticksPerMs + s.params.nSettle + t.samples.length + 7) ∧
      ∀ m, m < n → ∃ v, transaction (ins.take m) s = .next v ∧ v.blk.done = false ∧ v.blk.busy = true
end

