-- ==== Sys2Proof/Laws/State.lean ====
section
/-! SUPPORT. One lemma per field per named update of the state, so that no proof unfolds an update. -/

namespace Sys2Proof.Machine

/-! ### `State.onBlock` -/

@[simp] theorem State.onBlock_params (s : State) (f : Block → Block) : (s.onBlock f).params = s.params := rfl
@[simp] theorem State.onBlock_blk (s : State) (f : Block → Block) : (s.onBlock f).blk = f s.blk := rfl
@[simp] theorem State.onBlock_padClaim (s : State) (f : Block → Block) : (s.onBlock f).padClaim = s.padClaim := rfl
@[simp] theorem State.onBlock_din (s : State) (f : Block → Block) : (s.onBlock f).din = s.din := rfl
@[simp] theorem State.onBlock_padFail (s : State) (f : Block → Block) : (s.onBlock f).padFail = s.padFail := rfl
@[simp] theorem State.onBlock_hostData (s : State) (f : Block → Block) : (s.onBlock f).hostData = s.hostData := rfl
@[simp] theorem State.onBlock_agenda (s : State) (f : Block → Block) : (s.onBlock f).agenda = s.agenda := rfl
@[simp] theorem State.onBlock_draws (s : State) (f : Block → Block) : (s.onBlock f).draws = s.draws := rfl

/-! ### `State.withPins` -/

@[simp] theorem State.withPins_params (s : State) (d p : Bool) : (s.withPins d p).params = s.params := rfl
@[simp] theorem State.withPins_blk (s : State) (d p : Bool) : (s.withPins d p).blk = s.blk := rfl
@[simp] theorem State.withPins_padClaim (s : State) (d p : Bool) : (s.withPins d p).padClaim = s.padClaim := rfl
@[simp] theorem State.withPins_din (s : State) (d p : Bool) : (s.withPins d p).din = d := rfl
@[simp] theorem State.withPins_padFail (s : State) (d p : Bool) : (s.withPins d p).padFail = p := rfl
@[simp] theorem State.withPins_hostData (s : State) (d p : Bool) : (s.withPins d p).hostData = s.hostData := rfl
@[simp] theorem State.withPins_agenda (s : State) (d p : Bool) : (s.withPins d p).agenda = s.agenda := rfl
@[simp] theorem State.withPins_draws (s : State) (d p : Bool) : (s.withPins d p).draws = s.draws := rfl

/-! ### `State.doReset` -/

@[simp] theorem State.doReset_params (s : State) : (s.doReset).params = s.params := rfl
@[simp] theorem State.doReset_blk (s : State) : (s.doReset).blk = Block.reset := rfl
@[simp] theorem State.doReset_padClaim (s : State) : (s.doReset).padClaim = Config.freePadClaim s.draws := rfl
@[simp] theorem State.doReset_din (s : State) : (s.doReset).din = s.din := rfl
@[simp] theorem State.doReset_padFail (s : State) : (s.doReset).padFail = s.padFail := rfl
@[simp] theorem State.doReset_hostData (s : State) : (s.doReset).hostData = s.hostData := rfl
@[simp] theorem State.doReset_agenda (s : State) : (s.doReset).agenda = s.agenda := rfl
@[simp] theorem State.doReset_draws (s : State) : (s.doReset).draws = s.draws + 1 := rfl

/-! ### `Block.setCount` -/

@[simp] theorem Block.setCount_phase (b : Block) (i : Nat) (v : Count) : (b.setCount i v).phase = b.phase := rfl
@[simp] theorem Block.setCount_idx (b : Block) (i : Nat) (v : Count) : (b.setCount i v).idx = b.idx := rfl
@[simp] theorem Block.setCount_busy (b : Block) (i : Nat) (v : Count) : (b.setCount i v).busy = b.busy := rfl
@[simp] theorem Block.setCount_done (b : Block) (i : Nat) (v : Count) : (b.setCount i v).done = b.done := rfl
@[simp] theorem Block.setCount_err (b : Block) (i : Nat) (v : Count) : (b.setCount i v).err = b.err := rfl
@[simp] theorem Block.setCount_humX10 (b : Block) (i : Nat) (v : Count) : (b.setCount i v).humX10 = b.humX10 := rfl
@[simp] theorem Block.setCount_tempX10 (b : Block) (i : Nat) (v : Count) : (b.setCount i v).tempX10 = b.tempX10 := rfl
@[simp] theorem Block.setCount_tempMag (b : Block) (i : Nat) (v : Count) : (b.setCount i v).tempMag = b.tempMag := rfl
@[simp] theorem Block.setCount_tempNeg (b : Block) (i : Nat) (v : Count) : (b.setCount i v).tempNeg = b.tempNeg := rfl
@[simp] theorem Block.setCount_pulse (b : Block) (i : Nat) (v : Count) : (b.setCount i v).pulse = b.pulse.setIfInBounds i v := rfl
@[simp] theorem Block.setCount_frame (b : Block) (i : Nat) (v : Count) : (b.setCount i v).frame = b.frame := rfl
@[simp] theorem Block.setCount_sum (b : Block) (i : Nat) (v : Count) : (b.setCount i v).sum = b.sum := rfl
@[simp] theorem Block.setCount_thresh (b : Block) (i : Nat) (v : Count) : (b.setCount i v).thresh = b.thresh := rfl
@[simp] theorem Block.setCount_icnt (b : Block) (i : Nat) (v : Count) : (b.setCount i v).icnt = b.icnt := rfl
@[simp] theorem Block.setCount_wcnt (b : Block) (i : Nat) (v : Count) : (b.setCount i v).wcnt = b.wcnt := rfl
@[simp] theorem Block.setCount_claim (b : Block) (i : Nat) (v : Count) : (b.setCount i v).claim = b.claim := rfl
@[simp] theorem Block.setCount_level (b : Block) (i : Nat) (v : Count) : (b.setCount i v).level = b.level := rfl

/-! ### `Block.abort` -/

@[simp] theorem Block.abort_phase (e : ErrCode) (b : Block) : (b.abort e).phase = .idle := rfl
@[simp] theorem Block.abort_idx (e : ErrCode) (b : Block) : (b.abort e).idx = b.idx := rfl
@[simp] theorem Block.abort_busy (e : ErrCode) (b : Block) : (b.abort e).busy = false := rfl
@[simp] theorem Block.abort_done (e : ErrCode) (b : Block) : (b.abort e).done = true := rfl
@[simp] theorem Block.abort_err (e : ErrCode) (b : Block) : (b.abort e).err = e := rfl
@[simp] theorem Block.abort_humX10 (e : ErrCode) (b : Block) : (b.abort e).humX10 = b.humX10 := rfl
@[simp] theorem Block.abort_tempX10 (e : ErrCode) (b : Block) : (b.abort e).tempX10 = b.tempX10 := rfl
@[simp] theorem Block.abort_tempMag (e : ErrCode) (b : Block) : (b.abort e).tempMag = b.tempMag := rfl
@[simp] theorem Block.abort_tempNeg (e : ErrCode) (b : Block) : (b.abort e).tempNeg = b.tempNeg := rfl
@[simp] theorem Block.abort_pulse (e : ErrCode) (b : Block) : (b.abort e).pulse = b.pulse := rfl
@[simp] theorem Block.abort_frame (e : ErrCode) (b : Block) : (b.abort e).frame = b.frame := rfl
@[simp] theorem Block.abort_sum (e : ErrCode) (b : Block) : (b.abort e).sum = b.sum := rfl
@[simp] theorem Block.abort_thresh (e : ErrCode) (b : Block) : (b.abort e).thresh = b.thresh := rfl
@[simp] theorem Block.abort_icnt (e : ErrCode) (b : Block) : (b.abort e).icnt = b.icnt := rfl
@[simp] theorem Block.abort_wcnt (e : ErrCode) (b : Block) : (b.abort e).wcnt = b.wcnt := rfl
@[simp] theorem Block.abort_claim (e : ErrCode) (b : Block) : (b.abort e).claim = b.claim := rfl
@[simp] theorem Block.abort_level (e : ErrCode) (b : Block) : (b.abort e).level = b.level := rfl

/-! ### `Block.startTransaction` -/

@[simp] theorem Block.startTransaction_phase (b : Block) : (b.startTransaction).phase = .lineReset := rfl
@[simp] theorem Block.startTransaction_idx (b : Block) : (b.startTransaction).idx = 0 := rfl
@[simp] theorem Block.startTransaction_busy (b : Block) : (b.startTransaction).busy = true := rfl
@[simp] theorem Block.startTransaction_done (b : Block) : (b.startTransaction).done = false := rfl
@[simp] theorem Block.startTransaction_err (b : Block) : (b.startTransaction).err = .ok := rfl
@[simp] theorem Block.startTransaction_humX10 (b : Block) : (b.startTransaction).humX10 = 0 := rfl
@[simp] theorem Block.startTransaction_tempX10 (b : Block) : (b.startTransaction).tempX10 = 0 := rfl
@[simp] theorem Block.startTransaction_tempMag (b : Block) : (b.startTransaction).tempMag = 0 := rfl
@[simp] theorem Block.startTransaction_tempNeg (b : Block) : (b.startTransaction).tempNeg = false := rfl
@[simp] theorem Block.startTransaction_pulse (b : Block) : (b.startTransaction).pulse = Vector.replicate 82 0 := rfl
@[simp] theorem Block.startTransaction_frame (b : Block) : (b.startTransaction).frame = Vector.replicate 5 0 := rfl
@[simp] theorem Block.startTransaction_sum (b : Block) : (b.startTransaction).sum = 0 := rfl
@[simp] theorem Block.startTransaction_thresh (b : Block) : (b.startTransaction).thresh = 0 := rfl
@[simp] theorem Block.startTransaction_icnt (b : Block) : (b.startTransaction).icnt = 0 := rfl
@[simp] theorem Block.startTransaction_wcnt (b : Block) : (b.startTransaction).wcnt = 0 := rfl
@[simp] theorem Block.startTransaction_claim (b : Block) : (b.startTransaction).claim = b.claim := rfl
@[simp] theorem Block.startTransaction_level (b : Block) : (b.startTransaction).level = true := rfl

/-! ### `Block.reset` -/

@[simp] theorem Block.reset_phase : Block.reset.phase = .idle := rfl
@[simp] theorem Block.reset_idx : Block.reset.idx = 0 := rfl
@[simp] theorem Block.reset_busy : Block.reset.busy = false := rfl
@[simp] theorem Block.reset_done : Block.reset.done = false := rfl
@[simp] theorem Block.reset_err : Block.reset.err = .ok := rfl
@[simp] theorem Block.reset_humX10 : Block.reset.humX10 = 0 := rfl
@[simp] theorem Block.reset_tempX10 : Block.reset.tempX10 = 0 := rfl
@[simp] theorem Block.reset_tempMag : Block.reset.tempMag = 0 := rfl
@[simp] theorem Block.reset_tempNeg : Block.reset.tempNeg = false := rfl
@[simp] theorem Block.reset_pulse : Block.reset.pulse = Vector.replicate 82 0 := rfl
@[simp] theorem Block.reset_frame : Block.reset.frame = Vector.replicate 5 0 := rfl
@[simp] theorem Block.reset_sum : Block.reset.sum = 0 := rfl
@[simp] theorem Block.reset_thresh : Block.reset.thresh = 0 := rfl
@[simp] theorem Block.reset_icnt : Block.reset.icnt = 0 := rfl
@[simp] theorem Block.reset_wcnt : Block.reset.wcnt = 0 := rfl
@[simp] theorem Block.reset_claim : Block.reset.claim = .none := rfl
@[simp] theorem Block.reset_level : Block.reset.level = false := rfl

end Sys2Proof.Machine
end

