-- ==== Sys2Proof/Laws/Ops.lean ====
section
/-! SUPPORT. What each shared operation can do, said once. -/

namespace Sys2Proof.Machine

/-! ### Sequencing -/

@[simp] theorem andThen_next {α β : Type} (a : α) (f : α → Host.Outcome β Fault Refusal) :
    andThen (.next a) f = f a := rfl

/-- A sequence answers a next state only through a next state of its first part. -/
theorem andThen_eq_next {α β : Type} {o : Host.Outcome α Fault Refusal} {f : α → Host.Outcome β Fault Refusal}
    {t : β} (h : andThen o f = .next t) : ∃ s, o = .next s ∧ f s = .next t := by
  cases o with
  | next s => exact ⟨s, rfl, h⟩
  | fault r => cases h
  | refused r => cases h

theorem andThen_assoc {α β γ : Type} (o : Host.Outcome α Fault Refusal)
    (f : α → Host.Outcome β Fault Refusal) (g : β → Host.Outcome γ Fault Refusal) :
    andThen (andThen o f) g = andThen o fun s => andThen (f s) g := by
  cases o <;> rfl

theorem ticks_append (xs ys : List (Bool × Bool)) (s : State) :
    ticks (xs ++ ys) s = andThen (ticks xs s) (ticks ys) := by
  induction xs generalizing s with
  | nil => rfl
  | cons x xs ih =>
    simp only [List.cons_append, ticks, andThen_assoc]
    congr 1
    exact funext ih

theorem performAll_append (xs ys : List Transition) (s : State) :
    performAll (xs ++ ys) s = andThen (performAll xs s) (performAll ys) := by
  induction xs generalizing s with
  | nil => rfl
  | cons x xs ih =>
    simp only [List.cons_append, performAll, andThen_assoc]
    congr 1
    exact funext ih

/-! ### The buffer -/

theorem countAt_eq_getElem (b : Block) {i : Nat} (h : i < 82) : b.countAt i = b.pulse[i] := by
  simp [Block.countAt, h]

/-- Reading an entry just written. -/
theorem countAt_setCount_same (b : Block) (v : Count) {i : Nat} (h : i < 82) :
    (b.setCount i v).countAt i = v := by
  simp [Block.countAt, h]

/-- Reading any other entry. -/
theorem countAt_setCount_other (b : Block) (v : Count) {i j : Nat} (h : i ≠ j) :
    (b.setCount i v).countAt j = b.countAt j := by
  simp [Block.countAt, Vector.getElem?_setIfInBounds_ne h]

theorem countAt_of_pulse_eq {b c : Block} (h : b.pulse = c.pulse) (i : Nat) : b.countAt i = c.countAt i := by
  simp [Block.countAt, h]

theorem countAt_of_cleared {b : Block} (h : b.pulse = Vector.replicate 82 0) (i : Nat) : b.countAt i = 0 := by
  by_cases hi : i < 82 <;> simp [Block.countAt, h, hi]

/-- Two blocks with equal counts have equal buffers. -/
theorem pulse_ext {v w : Vector Count 82} (h : ∀ i, (hi : i < 82) → v[i] = w[i]) : v = w :=
  Vector.ext h

/-! ### Fixed waits -/

/-- A fixed wait either ends, writing 0 to `WCNT`, or counts; it always answers a next state (R31). -/
theorem timedWait_eq (n : Nat) (onEnd : Block → Block) (s : State) :
    timedWait n onEnd s =
      .next (s.onBlock fun b =>
        if s.blk.wcnt.toNat + 1 = n then onEnd { b with wcnt := 0 } else { b with wcnt := b.wcnt + 1 }) := by
  by_cases h : s.blk.wcnt.toNat + 1 = n <;> simp [timedWait, Block.waitEnds, h]

/-! ### Counting samples -/

/-- Counting a sample with `IDX` in the buffer (R152, R153, R154). -/
theorem countSample_eq (s : State) (h : s.blk.idx.toNat ≤ 81) :
    countSample s = .next (s.onBlock fun b =>
      let c := b.setCount b.idx.toNat (b.countAt b.idx.toNat + 1)
      if (s.blk.countAt s.blk.idx.toNat).toNat = 35999 then c.abort .timeout else c) := by
  by_cases hc : (s.blk.countAt s.blk.idx.toNat).toNat = 35999 <;>
    simp [countSample, h, reachesCeiling, Config.ceiling, raise, State.onBlock, hc]

theorem countSample_beyond (s : State) (h : 81 < s.blk.idx.toNat) :
    countSample s = .fault .indexBeyondBuffer := by
  simp [countSample, Nat.not_le.mpr h]

/-- Opening the next entry with `IDX + 1` in the buffer (R152, R153). -/
theorem openNextCount_eq (next : Phase) (s : State) (h : s.blk.idx.toNat + 1 ≤ 81) :
    openNextCount next s = .next (s.onBlock fun b =>
      { b.setCount (b.idx.toNat + 1) 1 with idx := b.idx + 1, phase := next }) := by
  simp [openNextCount, h]

theorem openNextCount_beyond (next : Phase) (s : State) (h : 81 < s.blk.idx.toNat + 1) :
    openNextCount next s = .fault .indexBeyondBuffer := by
  simp [openNextCount, Nat.not_le.mpr h]

theorem raise_eq (e : ErrCode) (s : State) : raise e s = .next (s.onBlock (Block.abort e)) := rfl

end Sys2Proof.Machine
end

