-- ==== Sys2Proof/Machine/HostScript.lean ====
section
/-! DEFINITION. The pseudo-operation `read(line)` (30_encoding.md R94), the host's side of a transaction. What
the environment chooses (R7) are the ticks between the host's accesses. -/

namespace Sys2Proof.Machine

/-- `RD n` after some ticks; the value returned is then `hostData`. -/
def readAfter (ins : List (Bool × Bool)) (n : Nat) (s : State) : Result :=
  andThen (ticks ins s) (perform (.hostRead n))

/-- R94 once a read of `STATUS`, its value in `hostData`, has shown `DONE` = 1: with `ERR` = 0, `RD HUM`, `RD TEMP`
and the success of R194; otherwise the failure that `ERR` names, with neither register read (`hostResult`
uses neither word then). -/
def collectResult (beforeHum beforeTemp : List (Bool × Bool)) (s : State) :
    Host.Outcome (State × Option ReadResult) Fault Refusal :=
  if s.hostData.extractLsb' 2 3 = 0 then
    andThen (readAfter beforeHum 2 s) fun h =>
      andThen (readAfter beforeTemp 3 h) fun t =>
        .next (t, hostResult s.hostData h.hostData t.hostData)
  else .next (s, hostResult s.hostData 0 0)

/-- R94's loop: `RD STATUS`, each after the ticks of one entry of `polls`, until `DONE` = 1. Where the
environment lists no more polls the host is still polling and has no result yet (log 19). -/
def pollUntilDone (beforeHum beforeTemp : List (Bool × Bool)) :
    List (List (Bool × Bool)) → State → Host.Outcome (State × Option ReadResult) Fault Refusal
  | [], s => .next (s, none)
  | ins :: polls, s =>
    andThen (readAfter ins 1 s) fun t =>
      if t.hostData.getLsbD 1 then collectResult beforeHum beforeTemp t
      else pollUntilDone beforeHum beforeTemp polls t

/-- AQM's `read(line)` (R94): `WR CMD, READ`, the polling, and the returned value of R115. -/
def readLine (polls : List (List (Bool × Bool))) (beforeHum beforeTemp : List (Bool × Bool)) (s : State) :
    Host.Outcome (State × Option ReadResult) Fault Refusal :=
  andThen (perform (.hostWrite 0 0x00000001#32) s) (pollUntilDone beforeHum beforeTemp polls)

end Sys2Proof.Machine
end

