-- ==== Sys2Proof/Laws/HostScript.lean ====
section
/-! SUPPORT. What each part of `read(line)` does, said once. -/

namespace Sys2Proof.Machine

/-! ### The fields of the `STATUS` word -/

theorem statusWord_done (b : Block) : b.statusWord.getLsbD 1 = b.done := by
  simp only [Block.statusWord]
  cases b.done <;> cases b.busy <;> cases b.err <;> decide

theorem statusWord_err (b : Block) : b.statusWord.extractLsb' 2 3 = b.err.code := by
  simp only [Block.statusWord]
  cases b.done <;> cases b.busy <;> cases b.err <;> decide

theorem readReg_status_done (b : Block) : (b.readReg 1).getLsbD 1 = b.done := statusWord_done b

theorem errCode_code_eq_zero (e : ErrCode) : e.code = 0 ↔ e = .ok := by
  cases e <;> decide

/-! ### Polling -/

variable {ins beforeHum beforeTemp : List (Bool × Bool)} {polls : List (List (Bool × Bool))} {s t : State}

theorem readAfter_eq (n : Nat) (h : ticks ins s = .next t) :
    readAfter ins n s = .next { t with hostData := t.blk.readReg n } := by
  simp [readAfter, h, perform, hostRead]

/-- A poll before the end of the transaction: the host polls again. -/
theorem pollUntilDone_again (h : ticks ins s = .next t) (hd : t.blk.done = false) :
    pollUntilDone beforeHum beforeTemp (ins :: polls) s =
      pollUntilDone beforeHum beforeTemp polls { t with hostData := t.blk.readReg 1 } := by
  rw [pollUntilDone, readAfter_eq 1 h, andThen_next, readReg_status_done, hd]
  rfl

/-- The poll that sees the end of the transaction. -/
theorem pollUntilDone_ended (h : ticks ins s = .next t) (hd : t.blk.done = true) :
    pollUntilDone beforeHum beforeTemp (ins :: polls) s =
      collectResult beforeHum beforeTemp { t with hostData := t.blk.readReg 1 } := by
  rw [pollUntilDone, readAfter_eq 1 h, andThen_next, readReg_status_done, hd]
  rfl

/-! ### The returned value -/

/-- After a success both registers are read, and the three words give the result. -/
theorem collectResult_ok {h : State} (hs : s.hostData = s.blk.statusWord) (he : s.blk.err = .ok)
    (hHum : ticks beforeHum s = .next h)
    (hTemp : ticks beforeTemp { h with hostData := h.blk.readReg 2 } = .next t) :
    collectResult beforeHum beforeTemp s =
      .next ({ t with hostData := t.blk.readReg 3 },
        hostResult s.blk.statusWord (h.blk.readReg 2) (t.blk.readReg 3)) := by
  have hz : s.hostData.extractLsb' 2 3 = 0 := by
    rw [hs, statusWord_err, he]
    rfl
  rw [collectResult, if_pos hz, readAfter_eq 2 hHum, andThen_next, readAfter_eq 3 hTemp, andThen_next, hs]

/-- After a failure neither register is read, and the result is the failure that `ERR` names (R115). -/
theorem collectResult_failed (hs : s.hostData = s.blk.statusWord) (hd : s.blk.done = true)
    (he : s.blk.err ≠ .ok) (h4 : s.blk.err ≠ .invalidArgument) :
    collectResult beforeHum beforeTemp s = .next (s, some (.failure s.blk.err)) := by
  have hz : ¬ s.hostData.extractLsb' 2 3 = 0 := by
    rw [hs, statusWord_err, errCode_code_eq_zero]
    exact he
  rw [collectResult, if_neg hz, hs, hostResult, statusWord_done, hd, statusWord_err]
  cases h : s.blk.err
  case ok => exact absurd h he
  case invalidArgument => exact absurd h h4
  all_goals rfl

end Sys2Proof.Machine
end

