-- ==== Sys2Proof/Laws/PerInstr.lean ====
section
/-! SUPPORT. Statements made for every operation, one lemma a constructor. -/

namespace Sys2Proof.Laws.EncodedFits

/-- The code of an operation fits its format and decodes back to the operation (R80, R86, R87, R88). -/
def Statement (i : Instr) : Prop := (encode i).wellFormed = true ∧ decode (encode i) = .ok i

theorem read : Statement .read := ⟨by decide, rfl⟩
theorem idle : Statement .idle := ⟨by decide, rfl⟩
theorem lineReset : Statement .lineReset := ⟨by decide, rfl⟩
theorem claimOut : Statement .claimOut := ⟨by decide, rfl⟩
theorem wakeHigh : Statement .wakeHigh := ⟨by decide, rfl⟩
theorem wakeLow : Statement .wakeLow := ⟨by decide, rfl⟩
theorem releaseOut : Statement .releaseOut := ⟨by decide, rfl⟩
theorem claimIn : Statement .claimIn := ⟨by decide, rfl⟩
theorem settle : Statement .settle := ⟨by decide, rfl⟩
theorem ackWait : Statement .ackWait := ⟨by decide, rfl⟩
theorem sampleLow : Statement .sampleLow := ⟨by decide, rfl⟩
theorem sampleHigh : Statement .sampleHigh := ⟨by decide, rfl⟩
theorem threshold : Statement .threshold := ⟨by decide, rfl⟩
theorem reconstruct : Statement .reconstruct := ⟨by decide, rfl⟩
theorem validate : Statement .validate := ⟨by decide, rfl⟩
theorem convert : Statement .convert := ⟨by decide, rfl⟩
theorem finish : Statement .finish := ⟨by decide, rfl⟩
theorem padNone : Statement .padNone := ⟨by decide, rfl⟩
theorem padRelease : Statement .padRelease := ⟨by decide, rfl⟩
theorem padClaimOut : Statement .padClaimOut := ⟨by decide, rfl⟩
theorem padClaimIn : Statement .padClaimIn := ⟨by decide, rfl⟩

end Sys2Proof.Laws.EncodedFits
end

