-- ==== Sys2Proof/Laws/Tick.lean ====
section
/-! SUPPORT. What a tick does in each phase, as one equation a phase: the pad's part and the block's part.
Later proofs cite these and never unfold `tick`, `exec` or the decoder. -/

namespace Sys2Proof.Machine

/-- The code of every phase decodes to that phase's operation (R86). -/
theorem decodePhase4_code (p : Phase) :
    decodePhase4 p.code = (match p with
      | .idle => .idle | .lineReset => .lineReset | .claimOut => .claimOut | .wakeHigh => .wakeHigh
      | .wakeLow => .wakeLow | .releaseOut => .releaseOut | .claimIn => .claimIn | .settle => .settle
      | .ackWait => .ackWait | .sampleLow => .sampleLow | .sampleHigh => .sampleHigh
      | .threshold => .threshold | .reconstruct => .reconstruct | .validate => .validate
      | .convert => .convert | .finish => .finish) := by
  cases p <;> rfl

theorem Phase.ofCode_code (p : Phase) : Phase.ofCode p.code = p := by
  cases p <;> rfl

theorem Phase.presenting_padCmd (c : BitVec 2) : (Phase.presenting c).padCmd = c := by
  revert c
  decide

/-- A tick whose phase presents `PAD_NONE`: the sequencer's operation alone. -/
theorem tick_of_padNone {s : State} (d f : Bool) (h : s.blk.phase.padCmd = 0) :
    tick d f s = exec (decodePhase4 s.blk.phase.code) (s.withPins d f) := by
  simp only [tick, State.padCmd, h]
  rfl

variable {s : State} (d f : Bool)

theorem tick_idle (h : s.blk.phase = .idle) : tick d f s = .next (s.withPins d f) := by
  simp [tick, State.padCmd, h, Phase.padCmd, Phase.code, decodePad2, decodePhase4, exec, execIdle, execPadNone]

theorem tick_lineReset (h : s.blk.phase = .lineReset) :
    tick d f s = .next { (s.withPins d f).onBlock (fun b => { b with claim := .none, phase := .claimOut }) with
      padClaim := .none } := by
  simp only [tick, State.padCmd, h]
  rfl

theorem tick_claimOut_granted (h : s.blk.phase = .claimOut) :
    tick d false s = .next { (s.withPins d false).onBlock
      (fun b => { b with claim := .out, wcnt := 0, phase := .wakeHigh }) with padClaim := .out } := by
  simp only [tick, State.padCmd, h]
  rfl

theorem tick_claimOut_refused (h : s.blk.phase = .claimOut) :
    tick d true s = .next { (s.withPins d true).onBlock (Block.abort .gpioClaimFail) with
      padClaim := .none } := by
  simp only [tick, State.padCmd, h]
  rfl

theorem tick_wakeHigh (h : s.blk.phase = .wakeHigh) :
    tick d f s = .next ((s.withPins d f).onBlock fun b =>
      if s.blk.wcnt.toNat + 1 = s.params.nWakeHigh
      then { b with wcnt := 0, level := false, phase := .wakeLow } else { b with wcnt := b.wcnt + 1 }) := by
  rw [tick_of_padNone d f (by rw [h]; rfl), h]
  exact timedWait_eq s.params.nWakeHigh (fun b => { b with level := false, phase := .wakeLow }) (s.withPins d f)

theorem tick_wakeLow (h : s.blk.phase = .wakeLow) :
    tick d f s = .next ((s.withPins d f).onBlock fun b =>
      if s.blk.wcnt.toNat + 1 = s.params.nWakeLow
      then { b with wcnt := 0, phase := .releaseOut } else { b with wcnt := b.wcnt + 1 }) := by
  rw [tick_of_padNone d f (by rw [h]; rfl), h]
  exact timedWait_eq s.params.nWakeLow (fun b => { b with phase := .releaseOut }) (s.withPins d f)

theorem tick_releaseOut (h : s.blk.phase = .releaseOut) :
    tick d f s = .next { (s.withPins d f).onBlock (fun b => { b with claim := .none, phase := .claimIn }) with
      padClaim := .none } := by
  simp only [tick, State.padCmd, h]
  rfl

theorem tick_claimIn_granted (h : s.blk.phase = .claimIn) :
    tick d false s = .next { (s.withPins d false).onBlock
      (fun b => { b with claim := .inp, wcnt := 0, phase := .settle }) with padClaim := .inp } := by
  simp only [tick, State.padCmd, h]
  rfl

theorem tick_claimIn_refused (h : s.blk.phase = .claimIn) :
    tick d true s = .next { (s.withPins d true).onBlock (Block.abort .gpioClaimFail) with
      padClaim := .none } := by
  simp only [tick, State.padCmd, h]
  rfl

theorem tick_settle (h : s.blk.phase = .settle) :
    tick d f s = .next ((s.withPins d f).onBlock fun b =>
      if s.blk.wcnt.toNat + 1 = s.params.nSettle
      then { b with wcnt := 0, phase := .ackWait } else { b with wcnt := b.wcnt + 1 }) := by
  rw [tick_of_padNone d f (by rw [h]; rfl), h]
  exact timedWait_eq s.params.nSettle (fun b => { b with phase := .ackWait }) (s.withPins d f)

theorem tick_ackWait_high (h : s.blk.phase = .ackWait) :
    tick true f s = .next ((s.withPins true f).onBlock fun b =>
      let c : Block := { b with icnt := b.icnt + 1 }
      if s.blk.icnt.toNat = 35999 then c.abort .timeout else c) := by
  rw [tick_of_padNone true f (by rw [h]; rfl), h]
  by_cases hc : s.blk.icnt.toNat = 35999 <;>
    simp [decodePhase4, Phase.code, exec, execAckWait, reachesCeiling, Config.ceiling, raise, State.onBlock, hc]

theorem tick_ackWait_low (h : s.blk.phase = .ackWait) :
    tick false f s = .next ((s.withPins false f).onBlock fun b =>
      { b.setCount 0 1 with idx := 0, phase := .sampleLow }) := by
  rw [tick_of_padNone false f (by rw [h]; rfl), h]
  rfl

theorem tick_sampleLow_low (h : s.blk.phase = .sampleLow) :
    tick false f s = countSample (s.withPins false f) := by
  rw [tick_of_padNone false f (by rw [h]; rfl), h]
  rfl

theorem tick_sampleLow_high (h : s.blk.phase = .sampleLow) :
    tick true f s = openNextCount .sampleHigh (s.withPins true f) := by
  rw [tick_of_padNone true f (by rw [h]; rfl), h]
  rfl

theorem tick_sampleHigh_high (h : s.blk.phase = .sampleHigh) :
    tick true f s = countSample (s.withPins true f) := by
  rw [tick_of_padNone true f (by rw [h]; rfl), h]
  rfl

theorem tick_sampleHigh_low_last (h : s.blk.phase = .sampleHigh) (hi : s.blk.idx = 81#7) :
    tick false f s = .next ((s.withPins false f).onBlock fun b => { b with phase := .threshold }) := by
  rw [tick_of_padNone false f (by rw [h]; rfl), h]
  simp [decodePhase4, Phase.code, exec, execSampleHigh, hi]

theorem tick_sampleHigh_low (h : s.blk.phase = .sampleHigh) (hi : s.blk.idx ≠ 81#7) :
    tick false f s = openNextCount .sampleLow (s.withPins false f) := by
  rw [tick_of_padNone false f (by rw [h]; rfl), h]
  simp [decodePhase4, Phase.code, exec, execSampleHigh, hi]

theorem tick_threshold (h : s.blk.phase = .threshold) :
    tick d f s = execThreshold (s.withPins d f) := by
  rw [tick_of_padNone d f (by rw [h]; rfl), h]
  rfl

theorem tick_reconstruct (h : s.blk.phase = .reconstruct) :
    tick d f s = execReconstruct (s.withPins d f) := by
  rw [tick_of_padNone d f (by rw [h]; rfl), h]
  rfl

theorem tick_validate (h : s.blk.phase = .validate) :
    tick d f s = .next ((s.withPins d f).onBlock fun b =>
      if b.checksumMatches then { b with phase := .convert } else b.abort .checksumFail) := by
  rw [tick_of_padNone d f (by rw [h]; rfl), h]
  by_cases hc : s.blk.checksumMatches <;>
    simp [decodePhase4, Phase.code, exec, execValidate, raise, State.onBlock, hc]

theorem tick_convert (h : s.blk.phase = .convert) :
    tick d f s = execConvert (s.withPins d f) := by
  rw [tick_of_padNone d f (by rw [h]; rfl), h]
  rfl

theorem tick_finish (h : s.blk.phase = .finish) :
    tick d f s = .next { (s.withPins d f).onBlock (fun b =>
      { b with claim := .none, err := .ok, busy := false, done := true, phase := .idle }) with
      padClaim := .none } := by
  simp only [tick, State.padCmd, h]
  rfl

/-! ### The host's transitions -/

theorem hostWrite_read_idle (h : s.blk.busy = false) :
    perform (.hostWrite 0 0x00000001#32) s = .next (s.onBlock Block.startTransaction) := by
  simp [perform, hostWrite, decodeCmd32, exec, execRead, h]

theorem hostWrite_read_busy (h : s.blk.busy = true) :
    perform (.hostWrite 0 0x00000001#32) s = .next s := by
  simp [perform, hostWrite, decodeCmd32, exec, execRead, h]

/-- A host write that is not `READ` to register 0 changes nothing (R61, R91). -/
theorem hostWrite_other {n : Nat} {v : Word} (h : ¬ (n = 0 ∧ v = 1#32)) : perform (.hostWrite n v) s = .next s := by
  by_cases hn : n = 0
  · have hv : v ≠ 1#32 := fun hv => h ⟨hn, hv⟩
    simp [perform, hostWrite, decodeCmd32, hn, hv]
  · simp [perform, hostWrite, hn]

end Sys2Proof.Machine
end

