-- ==== Sys2Proof/Tests/Slice0.lean ====
section
/-! SUPPORT. The model's own tests: ill-formed terms refused, words written out from 30_encoding.md, single
steps against 95_test_vectors.md (T8 to T34; the vector is named at each), and a witness for the
hypotheses of each statement of `Obligations.lean`. -/

namespace Sys2Proof.Tests

open Sys2Proof.Machine

/-! ## Well-formedness refuses what is ill-formed -/

theorem test_code_above_its_format_refused :
    EncodedWord.wellFormed ⟨.cmd32, 0x100000000⟩ = false ∧ EncodedWord.wellFormed ⟨.phase4, 0x10⟩ = false ∧
    EncodedWord.wellFormed ⟨.pad2, 4⟩ = false ∧ decode ⟨.phase4, 0x10⟩ = .error .beyondFormat ∧
    decode ⟨.cmd32, 0x100000001⟩ = .error .beyondFormat ∧ EncodedWord.wellFormed ⟨.phase4, 0xF⟩ = true := by
  refine ⟨by decide, by decide, by decide, rfl, rfl, by decide⟩

/-- R5: each constraint broken alone, and its bound met. -/
theorem test_params_out_of_range_refused :
    Params.wellFormed ⟨0, 50, false⟩ = false ∧ Params.wellFormed ⟨8589935, 50, false⟩ = false ∧
    Params.wellFormed ⟨1, 0, false⟩ = false ∧ Params.wellFormed ⟨1, 4294967296, false⟩ = false ∧
    Params.wellFormed ⟨8589934, 4294967295, true⟩ = true ∧ Params.wellFormed ⟨1, 1, false⟩ = true := by
  decide

/-- R93: a train one run short, one run long, and with an empty run. -/
theorem test_ill_formed_trains_refused :
    PulseTrain.wellFormed ⟨5, List.replicate 81 3⟩ = false ∧
    PulseTrain.wellFormed ⟨5, List.replicate 83 3⟩ = false ∧
    PulseTrain.wellFormed ⟨5, List.replicate 81 3 ++ [0]⟩ = false ∧
    PulseTrain.wellFormed ⟨0, List.replicate 82 1⟩ = true := by
  decide

/-! ## Words written out from the tables of 30_encoding.md -/

/-- R87, R91: `OP` = 0x01 below 24 zero bits; 0, 2, 0x101, 0x80000001 and all ones are reserved (T23). -/
theorem test_decode_command_words :
    decode ⟨.cmd32, 0b00000000000000000000000000000001⟩ = .ok .read ∧
    decode ⟨.cmd32, 0⟩ = .error .reservedCommand ∧ decode ⟨.cmd32, 2⟩ = .error .reservedCommand ∧
    decode ⟨.cmd32, 0x101⟩ = .error .reservedCommand ∧
    decode ⟨.cmd32, 0x80000001⟩ = .error .reservedCommand ∧
    decode ⟨.cmd32, 0xFFFFFFFF⟩ = .error .reservedCommand := by
  refine ⟨rfl, rfl, rfl, rfl, rfl, rfl⟩

/-- R86, every phase. -/
theorem test_decode_phase_codes :
    decode ⟨.phase4, 0b0000⟩ = .ok .idle ∧ decode ⟨.phase4, 0b0001⟩ = .ok .lineReset ∧
    decode ⟨.phase4, 0b0010⟩ = .ok .claimOut ∧ decode ⟨.phase4, 0b0011⟩ = .ok .wakeHigh ∧
    decode ⟨.phase4, 0b0100⟩ = .ok .wakeLow ∧ decode ⟨.phase4, 0b0101⟩ = .ok .releaseOut ∧
    decode ⟨.phase4, 0b0110⟩ = .ok .claimIn ∧ decode ⟨.phase4, 0b0111⟩ = .ok .settle ∧
    decode ⟨.phase4, 0b1000⟩ = .ok .ackWait ∧ decode ⟨.phase4, 0b1001⟩ = .ok .sampleLow ∧
    decode ⟨.phase4, 0b1010⟩ = .ok .sampleHigh ∧ decode ⟨.phase4, 0b1011⟩ = .ok .threshold ∧
    decode ⟨.phase4, 0b1100⟩ = .ok .reconstruct ∧ decode ⟨.phase4, 0b1101⟩ = .ok .validate ∧
    decode ⟨.phase4, 0b1110⟩ = .ok .convert ∧ decode ⟨.phase4, 0b1111⟩ = .ok .finish := by
  refine ⟨rfl, rfl, rfl, rfl, rfl, rfl, rfl, rfl, rfl, rfl, rfl, rfl, rfl, rfl, rfl, rfl⟩

/-- R88, every pad command. -/
theorem test_decode_pad_commands :
    decode ⟨.pad2, 0b00⟩ = .ok .padNone ∧ decode ⟨.pad2, 0b01⟩ = .ok .padRelease ∧
    decode ⟨.pad2, 0b10⟩ = .ok .padClaimOut ∧ decode ⟨.pad2, 0b11⟩ = .ok .padClaimIn := by
  refine ⟨rfl, rfl, rfl, rfl⟩

/-- Rows of the opcode table by their number of bits. -/
theorem test_decode_table_rows :
    decodeTableWord 32 1 = some .read ∧ decodeTableWord 8 0x9 = some .sampleLow ∧
    decodeTableWord 4 0xF = some .finish ∧ decodeTableWord 2 3 = some .padClaimIn ∧
    decodeTableWord 32 2 = none := by
  refine ⟨rfl, rfl, rfl, rfl, rfl⟩

/-! ## States for the tests and the witnesses -/

/-- The next state, where there is one. -/
def after {α : Type} (r : Host.Outcome α Fault Refusal) : Option α :=
  match r with
  | .next s => some s
  | .fault _ => none
  | .refused _ => none

/-- The state after reset with small parameters and another block. -/
def withBlk (b : Block) : State := { State.reset with params := ⟨1, 2, false⟩, blk := b }

/-- Small parameters: one tick a millisecond, a settling wait of two ticks. -/
def quick : Params := ⟨1, 2, false⟩
/-- How many buffer entries `midway` fills. -/
def entriesUsed : Phase → Nat
  | .idle | .lineReset | .claimOut | .wakeHigh | .wakeLow | .releaseOut | .claimIn | .settle | .ackWait => 0
  | .sampleLow => 81
  | .sampleHigh | .threshold | .reconstruct | .validate | .convert | .finish => 82
/-- A state in the middle of a transaction: `c` in every entry in use, `n` in `ICNT` from
`ACK_WAIT` on, and from `VALIDATE`
on a frame whose checksum is wrong. -/
def midway (p : Phase) (c n : Count) : State :=
  { State.reset with
    params := quick
    blk :=
      { Block.reset with
        phase := p
        busy := true
        idx := match p with
          | .sampleLow => 80
          | .sampleHigh => 81
          | _ => 0
        frame := if Phase.validate.rank ≤ p.rank then #v[0, 0, 0, 0, 1] else Vector.replicate 5 0
        pulse := Vector.ofFn fun i => if i.val < entriesUsed p then c else 0
        icnt := if p.rank ≤ Phase.settle.rank then 0 else n
        claim := p.claimHeld.getD .none
        level := decide (p.rank ≤ Phase.wakeHigh.rank) }
    padClaim := p.claimHeld.getD .none }

theorem countAt_midway (p : Phase) (c n : Count) {i : Nat} (h : i ≤ 81) :
    (midway p c n).blk.countAt i = if i < entriesUsed p then c else 0 := by
  have : i < 82 := by omega
  simp [midway, Block.countAt, this]

/-- Every such state with counts below the ceiling meets the invariant. -/
theorem midway_inv {p : Phase} {c n : Count} (hp : p ≠ .idle) (hc : 1 ≤ c.toNat ∧ c.toNat ≤ 35999)
    (hn : n.toNat ≤ 35999) : (midway p c n).Inv := by
  have hk : ∀ i, i ≤ 81 → (midway p c n).blk.countAt i = if i < entriesUsed p then c else 0 :=
    fun i => countAt_midway p c n
  have h0 : entriesUsed p = 0 → ∀ i, i ≤ 81 → (midway p c n).blk.countAt i = 0 := fun h i hi => by
    simp [hk i hi, h]
  have h82 : entriesUsed p = 82 → ∀ i, i ≤ 81 → (midway p c n).blk.countAt i = c := fun h i hi => by
    rw [hk i hi, h, if_pos (by omega)]
  have hle : ∀ i, i ≤ 81 → ((midway p c n).blk.countAt i).toNat ≤ 35999 := fun i hi => by
    rw [hk i hi]
    split
    · exact hc.2
    · simp
  refine ⟨rfl, Block.Inv.mk (Block.MeetsR36.mk ?_ ?_ ?_ ?_ ?_ ?_ ?_ ?_ ?_ ?_ ?_ ?_) ?_ ?_ ?_ ?_ ?_ ?_ ?_ ?_, ?_⟩
  case refine_1 => simpa [midway] using hp
  case refine_2 => simp [midway]
  case refine_3 => simp [midway]
  case refine_4 => simp [midway, ErrCode.code]
  case refine_5 => simp [midway]
  case refine_6 => cases p <;> simp [midway]
  case refine_7 => cases p <;> simp [midway]
  case refine_8 => 
    refine fun _ => ⟨hle, ?_⟩
    show (if p.rank ≤ Phase.settle.rank then (0 : Count) else n).toNat ≤ 35999
    split
    · simp
    · exact hn
  case refine_9 =>
    intro h i hi
    have hu : entriesUsed p = (midway p c n).blk.idx.toNat + 1 := by
      rcases h with h | h <;> (have h : p = _ := h; subst h; rfl)
    rw [hk i hi, hu]
    refine ⟨fun hle => ?_, fun hlt => if_neg (by omega)⟩
    rw [if_pos (by omega)]
    exact hc.1
  case refine_10 => 
    intro h i hi
    rw [h82 (by revert h; cases p <;> simp [midway, Phase.rank, Phase.code, entriesUsed]) i hi]
    exact hc.1
  case refine_11 => cases p <;> simp [midway, Phase.claimHeld]
  case refine_12 => cases p <;> simp [midway, Phase.rank, Phase.code]
  case refine_13 => cases p <;> simp [midway, Phase.waitLength, quick, Params.nWakeHigh, Params.nWakeLow, Config.wakeHighMs, Config.wakeLowMs]
  case refine_14 => 
    intro _ h i hi
    exact h0 (by revert h; cases p <;> simp [midway, Phase.rank, Phase.code, entriesUsed]) i hi
  case refine_15 =>
    intro _ h
    exact if_pos h
  case refine_16 => simp [midway]
  case refine_17 =>
    intro _ h
    have h : p.rank ≤ Phase.reconstruct.rank := h
    exact if_neg (by revert h; cases p <;> simp [Phase.rank, Phase.code])
  case refine_18 => simp [midway]
  case refine_19 => cases p <;> simp [midway, Phase.rank, Phase.code]
  case refine_20 => simp [midway]
  case refine_21 => cases p <;> simp [midway, Phase.claimHeld]

/-- A state after a transaction ended with outcome `e`, the results those of T1 where it succeeded. -/
def ended (e : ErrCode) : State :=
  { withBlk
      { Block.reset with
        done := true
        err := e
        humX10 := if e = .ok then 0x028C else 0
        tempX10 := if e = .ok then 0x00C6 else 0
        tempMag := if e = .ok then 0x00C6 else 0
        claim := e.claimLeft } with
    padClaim := e.claimLeft }

theorem ended_inv {e : ErrCode} (he : e ≠ .invalidArgument) : (ended e).Inv := by
  refine ⟨rfl, Block.Inv.mk (Block.MeetsR36.mk ?_ ?_ ?_ ?_ ?_ ?_ ?_ ?_ ?_ ?_ ?_ ?_) ?_ ?_ ?_ ?_ ?_ ?_ ?_ ?_, ?_⟩
  all_goals
    cases e <;> first
      | exact absurd rfl he
      | simp [ended, withBlk, ErrCode.code, ErrCode.claimLeft, Phase.rank, Phase.code, Phase.claimHeld,
          Phase.waitLength, Block.readReg]

/-- A train whose low runs are all `l` and high runs all `h`. -/
def evenTrain (a l h : Nat) : PulseTrain := ⟨a, (List.replicate 41 [l, h]).flatten⟩

theorem evenTrain_inRange {a l h : Nat} (ha : a ≤ 35999) (hl : 1 ≤ l ∧ l ≤ 35999) (hh : 1 ≤ h ∧ h ≤ 35999) :
    PulseTrainInRange (evenTrain a l h) := by
  refine ⟨?_, ha, ?_⟩
  · simp [evenTrain, PulseTrain.wellFormed]
    omega
  · simp [evenTrain]
    omega

/-- Inputs with these levels and no refusal. -/
def granted (levels : List Bool) : List (Bool × Bool) := levels.map fun d => (d, false)

theorem granted_fst (levels : List Bool) : (granted levels).map Prod.fst = levels := by
  simp [granted, Function.comp_def]

theorem granted_claims (p : Params) (levels : List Bool) : claimsGranted p (granted levels) := by
  simp [claimsGranted, granted]

/-! ## Single steps against the test vectors -/

/-- `READ` from reset (T21). -/
theorem test_read_from_reset :
    (after (exec .read State.reset)).map (fun t =>
      (t.blk.phase, t.blk.level, t.blk.claim, t.blk.readReg 1, t.blk.readReg 2, t.padCmd)) =
    some (.lineReset, true, .none, 0x00000001, 0, 1) := by
  decide

/-- `READ` while busy in `WAKE_HIGH` with `WCNT` = 8 (T22). -/
theorem test_read_while_busy :
    (after (perform (.hostWrite 0 1) (withBlk { Block.reset with
      phase := .wakeHigh, busy := true, wcnt := 8, claim := .out, level := true }))).map (fun t =>
      (t.blk.phase, t.blk.wcnt, t.blk.claim, t.blk.level, t.blk.readReg 1)) =
    some (.wakeHigh, 8, .out, true, 0x00000001) := by
  decide

/-- An `IDLE` tick with `din` 0 and `pad_fail` 1 (T34). -/
theorem test_idle_tick :
    (after (perform (.tick false true) (ended .checksumFail))).map (fun t => (t.blk, t.padClaim)) =
    some ((ended .checksumFail).blk, .inp) := by
  decide

/-- `LINE_RESET` clears a claim left over (T30), with `pad_fail` ignored (T29). -/
theorem test_lineReset_tick :
    (after (perform (.tick true true) { midway .lineReset 1 0 with
      blk := { (midway .lineReset 1 0).blk with claim := .inp }, padClaim := .inp })).map (fun t =>
      (t.blk.phase, t.blk.claim, t.padClaim, t.blk.err)) = some (.claimOut, .none, .none, .ok) := by
  decide

/-- `CLAIM_OUT` granted (T26, n = 2). -/
theorem test_claimOut_granted :
    (after (perform (.tick true false) (midway .claimOut 1 0))).map (fun t =>
      (t.blk.phase, t.blk.claim, t.blk.level, t.padClaim, t.lineDrive)) =
    some (.wakeHigh, .out, true, .out, some true) := by
  decide

/-- `CLAIM_OUT` refused (T27). -/
theorem test_claimOut_refused :
    (after (perform (.tick true true) (midway .claimOut 1 0))).map (fun t =>
      (t.blk.phase, t.blk.claim, t.blk.level, t.blk.readReg 1, t.padClaim)) =
    some (.idle, .none, true, 0x0000000E, .none) := by
  decide

/-- `WAKE_HIGH`: the last of its 500 ticks (T26, n = 502). -/
theorem test_wakeHigh_last :
    (after (exec .wakeHigh (withBlk { Block.reset with phase := .wakeHigh, level := true, wcnt := 499 }))).map
      (fun t => (t.blk.phase, t.blk.level, t.blk.wcnt)) = some (.wakeLow, false, 0) := by
  decide

/-- `WAKE_HIGH`: its first tick (T26, n = 3). -/
theorem test_wakeHigh_first :
    (after (exec .wakeHigh (withBlk { Block.reset with phase := .wakeHigh, level := true }))).map
      (fun t => (t.blk.phase, t.blk.level, t.blk.wcnt)) = some (.wakeHigh, true, 1) := by
  decide

/-- `WAKE_LOW`: the last of its 20 ticks (T26, n = 522). -/
theorem test_wakeLow_last :
    (after (exec .wakeLow (withBlk { Block.reset with phase := .wakeLow, wcnt := 19, claim := .out }))).map
      (fun t => (t.blk.phase, t.blk.claim, t.blk.wcnt)) = some (.releaseOut, .out, 0) := by
  decide

/-- `RELEASE_OUT` (T26, n = 523). -/
theorem test_releaseOut_tick :
    (after (perform (.tick true true) (midway .releaseOut 1 0))).map
      (fun t => (t.blk.phase, t.blk.claim, t.padClaim, t.lineDrive)) = some (.claimIn, .none, .none, none) := by
  decide

/-- `CLAIM_IN` granted (T26, n = 524). -/
theorem test_claimIn_granted :
    (after (perform (.tick true false) (midway .claimIn 1 0))).map
      (fun t => (t.blk.phase, t.blk.claim, t.blk.wcnt, t.padClaim)) = some (.settle, .inp, 0, .inp) := by
  decide

/-- `CLAIM_IN` refused (T28). -/
theorem test_claimIn_refused :
    (after (perform (.tick true true) (midway .claimIn 1 0))).map
      (fun t => (t.blk.phase, t.blk.claim, t.blk.level, t.blk.readReg 1)) =
    some (.idle, .none, false, 0x0000000E) := by
  decide

/-- `SETTLE` with `N_SETTLE` = 2: its second and last tick (T26, n = 526). -/
theorem test_settle_last :
    (after (exec .settle (withBlk { Block.reset with phase := .settle, wcnt := 1 }))).map
      (fun t => (t.blk.phase, t.blk.wcnt)) = some (.ackWait, 0) := by
  decide

/-- `ACK_WAIT`: the 36000th high sample (T9), and one high sample before it (R151). -/
theorem test_ackWait_high :
    (after (perform (.tick true false) (midway .ackWait 1 35999))).map
      (fun t => (t.blk.phase, t.blk.icnt, t.blk.readReg 1, t.blk.claim)) =
      some (.idle, 36000, 0x00000006, .inp) ∧
    (after (perform (.tick true false) (midway .ackWait 1 35998))).map
      (fun t => (t.blk.phase, t.blk.icnt, t.blk.readReg 1)) = some (.ackWait, 35999, 0x00000001) := by
  decide

/-- `ACK_WAIT`: the first low sample is the first count of `PULSE[0]` (T9, a = 0). -/
theorem test_ackWait_low :
    (after (perform (.tick false false) (midway .ackWait 1 0))).map
      (fun t => (t.blk.phase, t.blk.icnt, t.blk.idx, t.blk.countAt 0, t.blk.countAt 1)) =
    some (.sampleLow, 0, 0, 1, 0) := by
  decide

/-- `SAMPLE_LOW`: one more low sample, below the ceiling and at it (T8, T11). -/
theorem test_sampleLow_low :
    (after (perform (.tick false false) (midway .sampleLow 35998 0))).map
      (fun t => (t.blk.phase, t.blk.countAt 80, t.blk.countAt 81, t.blk.err)) =
      some (.sampleLow, 35999, 0, .ok) ∧
    (after (perform (.tick false false) (midway .sampleLow 35999 0))).map
      (fun t => (t.blk.phase, t.blk.countAt 80, t.blk.countAt 79, t.blk.readReg 1)) =
      some (.idle, 36000, 35999, 0x00000006) := by
  decide

/-- `SAMPLE_LOW`: a high sample is the first count of the next entry (R152). -/
theorem test_sampleLow_high :
    (after (perform (.tick true false) (midway .sampleLow 7 0))).map
      (fun t => (t.blk.phase, t.blk.idx, t.blk.countAt 80, t.blk.countAt 81)) =
    some (.sampleHigh, 81, 7, 1) := by
  decide

/-- `SAMPLE_HIGH`: the low sample that ends window 41 is not stored (R153). -/
theorem test_sampleHigh_last_window :
    (after (perform (.tick false false) (midway .sampleHigh 7 0))).map
      (fun t => (t.blk.phase, t.blk.idx, t.blk.countAt 81)) = some (.threshold, 81, 7) := by
  decide

/-- `SAMPLE_HIGH`: a low sample opens the next window; at the ceiling a high one times out (R153, R154). -/
theorem test_sampleHigh_next_window :
    (after (exec .sampleHigh { midway .sampleHigh 7 0 with
      blk := { (midway .sampleHigh 7 0).blk with idx := 79 } })).map
      (fun t => (t.blk.phase, t.blk.idx, t.blk.countAt 79, t.blk.countAt 80)) = some (.sampleLow, 80, 7, 1) ∧
    (after (perform (.tick true false) (midway .sampleHigh 35999 0))).map
      (fun t => (t.blk.phase, t.blk.countAt 81, t.blk.readReg 1)) = some (.idle, 36000, 0x00000006) := by
  decide

/-- A block whose first low count is `first` and whose other low counts are `low`, but the last, `last`. -/
def lows (first low last : Count) : Block :=
  { Block.reset with
    pulse := Vector.ofFn fun i => if i.val = 0 then first else if i.val = 80 then last else low }

/-- `THRESHOLD`, four rows of T15: thirty-nine 50s and one 89, one 90; forty 4s with and without window 1. -/
theorem test_threshold_rows :
    (after (exec .threshold (withBlk (lows 80 50 89)))).map (fun t => (t.blk.sum, t.blk.thresh)) = some (2039, 50) ∧
    (after (exec .threshold (withBlk (lows 80 50 90)))).map (fun t => (t.blk.sum, t.blk.thresh)) = some (2040, 51) ∧
    (after (exec .threshold (withBlk (lows 5 4 4)))).map (fun t => (t.blk.sum, t.blk.thresh)) = some (160, 4) ∧
    (after (exec .threshold { withBlk (lows 5 4 4) with params := ⟨1, 2, true⟩ })).map
      (fun t => (t.blk.sum, t.blk.thresh)) = some (165, 4) := by
  decide

/-- `THRESHOLD`, the largest values (T15, R171). -/
theorem test_threshold_largest :
    (after (exec .threshold (withBlk (lows 35999 35999 35999)))).map
      (fun t => (t.blk.sum, t.blk.thresh)) = some (1439960, 35999) ∧
    (after (exec .threshold { withBlk (lows 35999 35999 35999) with params := ⟨1, 2, true⟩ })).map
      (fun t => (t.blk.sum, t.blk.thresh, t.blk.phase)) = some (1475959, 36898, .reconstruct) := by
  decide

/-- The high counts of T16, windows 2 to 41. -/
def highsT16 : List Nat :=
  [2, 2, 2, 2, 2, 2, 6, 2] ++ [6, 2, 2, 2, 6, 6, 2, 2] ++ [2, 2, 2, 2, 2, 2, 2, 2] ++
  [6, 6, 2, 2, 2, 6, 6, 2] ++ [2, 6, 2, 6, 2, 6, 2, 2]

/-- The block of T16 with a threshold; `PULSE[1]` = 5. -/
def blockT16 (thresh : Count) : Block :=
  { Block.reset with
    thresh := thresh
    pulse := Vector.ofFn fun i =>
      if i.val % 2 = 0 then 4 else if i.val = 1 then 5 else BitVec.ofNat 16 (highsT16[(i.val - 3) / 2]?.getD 0) }

/-- `RECONSTRUCT` (T16), with `THRESH` = 4 and, for the equality, 6 and 7. -/
theorem test_reconstruct_rows :
    (after (exec .reconstruct (withBlk (blockT16 4)))).map (fun t => (t.blk.frame, t.blk.phase)) =
      some (#v[0x02, 0x8C, 0x00, 0xC6, 0x54], .validate) ∧
    (after (exec .reconstruct (withBlk (blockT16 6)))).map (fun t => t.blk.frame) =
      some #v[0x02, 0x8C, 0x00, 0xC6, 0x54] := by
  decide

theorem test_reconstruct_extremes :
    (after (exec .reconstruct (withBlk (blockT16 7)))).map (fun t => t.blk.frame) = some #v[0, 0, 0, 0, 0] ∧
    (after (exec .reconstruct (withBlk (blockT16 2)))).map (fun t => t.blk.frame) =
      some #v[0xFF, 0xFF, 0xFF, 0xFF, 0xFF] := by
  decide

/-- A block that holds a frame. -/
def framed (f : Vector Byte 5) : State := withBlk { Block.reset with frame := f, phase := .validate, busy := true }

/-- `VALIDATE` passes (T18), also where the sum wraps. -/
theorem test_validate_pass :
    (after (exec .validate (framed #v[0x02, 0x8C, 0x00, 0xC6, 0x54]))).map (fun t => t.blk.phase) = some .convert ∧
    (after (exec .validate (framed #v[0x80, 0x80, 0x00, 0x00, 0x00]))).map (fun t => t.blk.phase) = some .convert ∧
    (after (exec .validate (framed #v[0xFF, 0xFF, 0xFF, 0xFF, 0xFC]))).map (fun t => t.blk.phase) = some .convert := by
  decide

/-- `VALIDATE` fails with AQM's printed value (T2, T18). -/
theorem test_validate_fail :
    (after (exec .validate (framed #v[0x02, 0x8C, 0x00, 0xC6, 0x56]))).map
      (fun t => (t.blk.phase, t.blk.readReg 1, t.blk.readReg 2, t.blk.readReg 3)) = some (.idle, 0x0000000A, 0, 0) := by
  decide

/-- `CONVERT`: rows of T19 with the sign clear and set. -/
theorem test_convert_sign :
    (after (exec .convert (framed #v[0x02, 0x8C, 0x00, 0xC6, 0x54]))).map
      (fun t => (t.blk.readReg 2, t.blk.readReg 3, t.blk.phase)) = some (0x0000028C, 0x00C600C6, .finish) ∧
    (after (exec .convert (framed #v[0x01, 0xC2, 0x80, 0x65, 0xA8]))).map
      (fun t => (t.blk.readReg 2, t.blk.readReg 3)) = some (0x000001C2, 0x8065FF9B) := by
  decide

/-- `CONVERT`: rows of T19 at the ends of the range. -/
theorem test_convert_extremes :
    (after (exec .convert (framed #v[0x00, 0x00, 0x80, 0x00, 0x80]))).map (fun t => t.blk.readReg 3) =
      some 0x80000000 ∧
    (after (exec .convert (framed #v[0x00, 0x01, 0xFF, 0xFF, 0xFF]))).map (fun t => t.blk.readReg 3) =
      some 0xFFFF8001 ∧
    (after (exec .convert (framed #v[0xFF, 0xFF, 0x7F, 0xFF, 0x00]))).map
      (fun t => (t.blk.readReg 2, t.blk.readReg 3)) = some (0x0000FFFF, 0x7FFF7FFF) := by
  decide

/-- `FINISH` (T25, tick 829), with `pad_fail` ignored (T29). -/
theorem test_finish_tick :
    (after (perform (.tick true true) (midway .finish 1 0))).map
      (fun t => (t.blk.phase, t.blk.readReg 1, t.blk.claim, t.padClaim)) = some (.idle, 0x00000002, .none, .none) := by
  decide

/-- The pad commands: `PAD_NONE` keeps a claim, `PAD_RELEASE` drops it whatever `pad_fail` is (R137, R138). -/
theorem test_pad_none_and_release :
    (after (exec .padNone { State.reset with padClaim := .inp, padFail := true })).map (·.padClaim) = some .inp ∧
    (after (exec .padRelease { State.reset with padClaim := .out, padFail := true })).map (·.padClaim) =
      some .none := by
  decide

/-- The pad's answers to a claim (R139, R140). -/
theorem test_pad_claims :
    (after (exec .padClaimOut State.reset)).map (fun t => (t.padClaim, t.lineDrive)) = some (.out, some false) ∧
    (after (exec .padClaimOut { State.reset with padFail := true })).map (·.padClaim) = some .none ∧
    (after (exec .padClaimIn State.reset)).map (fun t => (t.padClaim, t.lineDrive)) = some (.inp, none) ∧
    (after (exec .padClaimIn { State.reset with padFail := true })).map (·.padClaim) = some .none := by
  decide

/-- Host reads and ignored writes (T24). -/
theorem test_register_edges :
    (after (perform (.hostRead 1) (ended .ok))).map (·.hostData) = some 0x00000002 ∧
    (after (perform (.hostRead 2) (ended .ok))).map (·.hostData) = some 0x0000028C ∧
    (after (perform (.hostRead 3) (ended .ok))).map (·.hostData) = some 0x00C600C6 ∧
    (after (perform (.hostRead 4) (ended .ok))).map (·.hostData) = some 0 ∧
    (after (perform (.hostWrite 1 0xFFFFFFFF) (ended .ok))).map (·.blk) = some (ended .ok).blk ∧
    (after (perform (.hostWrite 4 1) (ended .ok))).map (·.blk) = some (ended .ok).blk := by
  decide

/-- `Reset()` in the wake sequence (T33). -/
theorem test_reset_during_wake :
    (after (perform .reset (midway .wakeHigh 1 0))).map (fun t => (t.blk, t.padCmd, t.padLevel, t.blk.readReg 1)) =
    some (Block.reset, 0, false, 0) := by
  decide

/-- The host's view of T1, T2 and of a block still busy (R115, R194). -/
theorem test_host_result :
    hostResult 0x00000002 0x0000028C 0x00C600C6 = some (.success 652 198) ∧
    hostResult 0x00000002 0x000001C2 0x8065FF9B = some (.success 450 (-101)) ∧
    hostResult 0x0000000A 0 0 = some (.failure .checksumFail) ∧ hostResult 0x00000001 0 0 = none := by
  decide

/-- `read(line)` with the first claim refused (R94, T27): a poll that shows `BUSY`, then one that shows the end;
with the first poll alone there is no result yet. -/
theorem test_readLine_polls_until_done :
    (after (readLine [[], [(true, false), (true, true)]] [] [] State.reset)).map (fun r => (r.1.hostData, r.2)) =
      some (0x0000000E, some (.failure .gpioClaimFail)) ∧
    (after (readLine [[]] [] [] State.reset)).map (fun r => (r.1.hostData, r.2)) = some (0x00000001, none) := by
  decide

/-- The reads and the value returned after T1, with a tick before each read; none is read after a failure. -/
theorem test_collectResult :
    (after (collectResult [(false, true)] [(true, false)] { ended .ok with hostData := 2 })).map
      (fun r => (r.1.hostData, r.2)) = some (0x00C600C6, some (.success 652 198)) ∧
    (after (collectResult [] [] { ended .timeout with hostData := 6 })).map
      (fun r => (r.1.hostData, r.2)) = some (0x00000006, some (.failure .timeout)) := by
  decide

/-- A bus cycle that is not one whole register has no meaning (R67). -/
theorem test_undefined_bus_cycle :
    step { State.reset with agenda := [.undefinedBusCycle] } = .refused .undefinedBusCycle := rfl

/-- Placed codes are what the next step runs. -/
theorem test_placed_codes_run :
    (after (step (State.reset.withFetchWord 32 1))).map (·.blk.phase) = some .lineReset ∧
    (after (step (State.reset.withFetchWord 8 0x1))).map (·.blk.phase) = some .claimOut ∧
    (after (step (State.reset.withFetchWord 8 0xF))).map (·.blk.readReg 1) = some 0x00000002 ∧
    (after (step (State.reset.withFetchWord 2 2))).map (·.padClaim) = some .out := by
  decide

/-! ## The statements' hypotheses are met -/

theorem witness_ReservedCommandWordsAreRejected :
    (0 < 2 ^ 32 ∧ (0 : Nat) ≠ 1) ∧ (2 < 2 ^ 32 ∧ (2 : Nat) ≠ 1) ∧ (4294967295 < 2 ^ 32 ∧ (4294967295 : Nat) ≠ 1) := by
  decide

theorem witness_ReadAcceptedClearsAndStarts :
    State.reset.blk.busy = false ∧ (ended .timeout).blk.busy = false := ⟨rfl, rfl⟩

theorem witness_ReadWhileBusyIsDropped : (midway .settle 1 0).blk.busy = true := rfl

theorem witness_ReservedCommandsChangeNothing : (0 : Word) ≠ 0x00000001#32 ∧ (2 : Word) ≠ 0x00000001#32 := by
  decide

theorem witness_RegisterSpaceEdges : 4 ≤ 4 ∧ ((1 : Nat) = 1 ∨ (1 : Nat) = 2 ∨ (1 : Nat) = 3) ∧
    ((3 : Nat) = 1 ∨ (3 : Nat) = 2 ∨ (3 : Nat) = 3) := by
  decide

theorem witness_HostReadReturnsTheRegister :
    ((midway .convert 1 0).Inv ∧ (midway .convert 1 0).blk.busy = true ∧ (midway .convert 1 0).blk.phase ≠ .finish) ∧
    ((ended .timeout).Inv ∧ (ended .timeout).blk.err ≠ .ok) :=
  ⟨⟨midway_inv (by decide) (by decide) (by decide), rfl, by decide⟩, ended_inv (by decide), by decide⟩

theorem witness_StatusReadsOneOfSixValues : Reachable State.reset := .afterReset State.reset rfl rfl

theorem witness_HostResultOfAnEndedTransaction :
    ((ended .ok).Inv ∧ (ended .ok).blk.done = true) ∧ ((ended .timeout).Inv ∧ (ended .timeout).blk.done = true) ∧
    ((ended .checksumFail).Inv ∧ (ended .checksumFail).blk.done = true) ∧
    ((ended .gpioClaimFail).Inv ∧ (ended .gpioClaimFail).blk.done = true) :=
  ⟨⟨ended_inv (by decide), rfl⟩, ⟨ended_inv (by decide), rfl⟩, ⟨ended_inv (by decide), rfl⟩,
    ended_inv (by decide), rfl⟩

theorem witness_IdleTickChangesNothing : State.reset.blk.phase = .idle := rfl

theorem witness_ClaimOutTakesTheLineOrAborts :
    ({ State.reset with padFail := true }).padFail = true ∧ State.reset.padFail = false ∧
    (midway .claimOut 1 0).Inv ∧ (midway .claimOut 1 0).blk.phase = .claimOut :=
  ⟨rfl, rfl, midway_inv (by decide) (by decide) (by decide), rfl⟩

theorem witness_WakeHighLastsItsTicks_inv :
    (midway .wakeHigh 1 0).Inv ∧ (midway .wakeHigh 1 0).blk.phase = .wakeHigh :=
  ⟨midway_inv (by decide) (by decide) (by decide), rfl⟩

/-- At the first tick, the last but one and the last of the phase. -/
theorem witness_WakeHighLastsItsTicks :
    (midway .wakeHigh 1 0).params.wellFormed = true ∧ (midway .wakeHigh 1 0).blk.phase = .wakeHigh ∧
    (midway .wakeHigh 1 0).blk.wcnt = 0 ∧
    (List.replicate 1 (true, false)).length ≤ 500 * (midway .wakeHigh 1 0).params.ticksPerMs ∧
    (List.replicate 499 (true, false)).length ≤ 500 * (midway .wakeHigh 1 0).params.ticksPerMs ∧
    (List.replicate 500 (true, false)).length = 500 * (midway .wakeHigh 1 0).params.ticksPerMs := by
  refine ⟨rfl, rfl, rfl, ?_, ?_, ?_⟩ <;> rw [List.length_replicate] <;> decide

theorem witness_WakeLowLastsItsTicks_inv :
    ((midway .wakeLow 1 0).Inv ∧ (midway .wakeLow 1 0).blk.phase = .wakeLow) ∧
    ∃ t, State.reset.blk.level = false ∧ perform (.hostWrite 0 0x00000001#32) State.reset = .next t ∧
      t.blk.level = true :=
  ⟨⟨midway_inv (by decide) (by decide) (by decide), rfl⟩, _, rfl, rfl, rfl⟩

theorem witness_WakeLowLastsItsTicks :
    (midway .wakeLow 1 0).params.wellFormed = true ∧ (midway .wakeLow 1 0).blk.phase = .wakeLow ∧
    (midway .wakeLow 1 0).blk.wcnt = 0 ∧
    (List.replicate 19 (true, false)).length ≤ 20 * (midway .wakeLow 1 0).params.ticksPerMs ∧
    (List.replicate 20 (true, false)).length = 20 * (midway .wakeLow 1 0).params.ticksPerMs := by
  refine ⟨rfl, rfl, rfl, ?_, ?_⟩ <;> simp [midway, quick]

theorem witness_ReleaseOutDropsTheOutputClaim :
    (midway .releaseOut 1 0).Inv ∧ (midway .releaseOut 1 0).blk.phase = .releaseOut :=
  ⟨midway_inv (by decide) (by decide) (by decide), rfl⟩

theorem witness_ClaimInTakesTheLineOrAborts :
    ({ State.reset with padFail := true }).padFail = true ∧ State.reset.padFail = false ∧
    (midway .claimIn 1 0).Inv ∧ (midway .claimIn 1 0).blk.phase = .claimIn :=
  ⟨rfl, rfl, midway_inv (by decide) (by decide) (by decide), rfl⟩

theorem witness_SettleLastsItsTicks_inv :
    (midway .settle 1 0).Inv ∧ (midway .settle 1 0).blk.phase = .settle :=
  ⟨midway_inv (by decide) (by decide) (by decide), rfl⟩

theorem witness_SettleLastsItsTicks :
    (midway .settle 1 0).params.wellFormed = true ∧ (midway .settle 1 0).blk.phase = .settle ∧
    (midway .settle 1 0).blk.wcnt = 0 ∧
    (List.replicate 1 (true, false)).length ≤ (midway .settle 1 0).params.nSettle ∧
    (List.replicate 2 (true, false)).length = (midway .settle 1 0).params.nSettle := by
  refine ⟨rfl, rfl, rfl, ?_, ?_⟩ <;> simp [midway, quick]

theorem witness_PadClaimOutIsGrantedOrRefused :
    State.reset.padFail = false ∧ ({ State.reset with padFail := true }).padFail = true ∧
    (midway .claimOut 1 0).Inv ∧ (midway .claimOut 1 0).padCmd = 2#2 :=
  ⟨rfl, rfl, midway_inv (by decide) (by decide) (by decide), rfl⟩

theorem witness_PadClaimInIsGrantedOrRefused :
    State.reset.padFail = false ∧ ({ State.reset with padFail := true }).padFail = true ∧
    (midway .claimIn 1 0).Inv ∧ (midway .claimIn 1 0).padCmd = 3#2 :=
  ⟨rfl, rfl, midway_inv (by decide) (by decide) (by decide), rfl⟩

/-- High samples below and at the ceiling, and a low one. -/
theorem witness_AckWaitCountsHighSamples :
    (∃ s : State, s.din = true ∧ s.blk.icnt.toNat + 1 ≠ 36000) ∧
    (∃ s : State, s.din = true ∧ s.blk.icnt.toNat + 1 = 36000) ∧ (∃ s : State, s.din = false) :=
  ⟨⟨{ midway .ackWait 1 35998 with din := true }, rfl, by decide⟩,
    ⟨{ midway .ackWait 1 35999 with din := true }, rfl, by decide⟩, State.reset, rfl⟩

/-- `midway` at the buffer's index `n`, with `din`. -/
def atIndex (p : Phase) (c : Count) (n : BitVec 7) (din : Bool) : State :=
  { midway p c 0 with blk := { (midway p c 0).blk with idx := n }, din := din }

/-- Each clause at the ends of the buffer. -/
theorem witness_SampleLowCountsLowSamples :
    (∃ (s : State) (h : s.blk.idx.toNat < 82), s.din = false ∧ (s.blk.pulse[s.blk.idx.toNat]).toNat + 1 ≠ 36000) ∧
    (∃ (s : State) (h : s.blk.idx.toNat < 82), s.din = false ∧ (s.blk.pulse[s.blk.idx.toNat]).toNat + 1 = 36000) ∧
    (∃ s : State, s.blk.idx.toNat + 1 < 82 ∧ s.din = true) ∧
    (∃ s : State, s.din = false ∧ 82 ≤ s.blk.idx.toNat) ∧ (∃ s : State, s.din = true ∧ 82 ≤ s.blk.idx.toNat + 1) :=
  ⟨⟨atIndex .sampleLow 35998 80 false, by decide, rfl, by decide⟩,
    ⟨atIndex .sampleLow 35999 80 false, by decide, rfl, by decide⟩,
    ⟨atIndex .sampleLow 1 80 true, by decide, rfl⟩, ⟨atIndex .sampleLow 1 82 false, rfl, by decide⟩,
    atIndex .sampleLow 1 81 true, rfl, by decide⟩

theorem witness_SampleHighCountsHighSamples :
    (∃ (s : State) (h : s.blk.idx.toNat < 82), s.din = true ∧ (s.blk.pulse[s.blk.idx.toNat]).toNat + 1 ≠ 36000) ∧
    (∃ (s : State) (h : s.blk.idx.toNat < 82), s.din = true ∧ (s.blk.pulse[s.blk.idx.toNat]).toNat + 1 = 36000) ∧
    (∃ s : State, s.din = false ∧ s.blk.idx.toNat = 81) ∧ (∃ s : State, s.blk.idx.toNat + 1 < 82 ∧ s.din = false) ∧
    (∃ s : State, 82 ≤ s.blk.idx.toNat) :=
  ⟨⟨atIndex .sampleHigh 35998 81 true, by decide, rfl, by decide⟩,
    ⟨atIndex .sampleHigh 35999 81 true, by decide, rfl, by decide⟩, ⟨atIndex .sampleHigh 1 81 false, rfl, rfl⟩,
    ⟨atIndex .sampleHigh 1 80 false, by decide, rfl⟩, atIndex .sampleHigh 1 82 true, by decide⟩

/-- Each counter at the ceiling, and one tick that raises nothing. -/
theorem witness_TimeoutExactlyAtTheCeiling :
    (∃ t, (midway .ackWait 1 35999).Inv ∧ (midway .ackWait 1 35999).blk.busy = true ∧
      perform (.tick true false) (midway .ackWait 1 35999) = .next t ∧ t.blk.err = .timeout) ∧
    (∃ t, (midway .sampleLow 35999 0).Inv ∧ (midway .sampleLow 35999 0).blk.busy = true ∧
      perform (.tick false false) (midway .sampleLow 35999 0) = .next t ∧ t.blk.err = .timeout) ∧
    (∃ t, (midway .sampleHigh 35999 0).Inv ∧ (midway .sampleHigh 35999 0).blk.busy = true ∧
      perform (.tick true false) (midway .sampleHigh 35999 0) = .next t ∧ t.blk.err = .timeout) ∧
    (∃ t, (midway .validate 1 0).Inv ∧ (midway .validate 1 0).blk.busy = true ∧
      perform (.tick true false) (midway .validate 1 0) = .next t) :=
  ⟨⟨_, midway_inv (by decide) (by decide) (by decide), rfl, rfl, rfl⟩,
    ⟨_, midway_inv (by decide) (by decide) (by decide), rfl, rfl, rfl⟩,
    ⟨_, midway_inv (by decide) (by decide) (by decide), rfl, rfl, rfl⟩,
    _, midway_inv (by decide) (by decide) (by decide), rfl, rfl⟩

/-- The tick that completes the buffer, and one that times out. -/
theorem witness_BufferIsCompleteWhenDecodeProceeds :
    (∃ t, (midway .sampleHigh 35999 0).Inv ∧ (midway .sampleHigh 35999 0).blk.busy = true ∧
      perform (.tick false false) (midway .sampleHigh 35999 0) = .next t ∧ t.blk.phase = .threshold) ∧
    (∃ t, (midway .sampleHigh 35999 0).Inv ∧ (midway .sampleHigh 35999 0).blk.busy = true ∧
      perform (.tick true false) (midway .sampleHigh 35999 0) = .next t ∧ t.blk.err = .timeout) :=
  ⟨⟨_, midway_inv (by decide) (by decide) (by decide), rfl, rfl, rfl⟩,
    _, midway_inv (by decide) (by decide) (by decide), rfl, rfl, rfl⟩

/-- The shortest and the longest train (T10, R158), a train cut short in each kind of run, and a line that
never leaves the high level. -/
theorem witness_SamplerRecordsRunLengths :
    ((midway .ackWait 1 0).blk.phase = .ackWait ∧ (midway .ackWait 1 0).blk.icnt = 0 ∧
      (midway .ackWait 1 0).blk.pulse = Vector.replicate 82 0) ∧
    (PulseTrainInRange (evenTrain 0 1 1) ∧
      (granted (evenTrain 0 1 1).samples).map Prod.fst = (evenTrain 0 1 1).samples) ∧
    (PulseTrainInRange (evenTrain 35999 35999 35999) ∧
      (granted (evenTrain 35999 35999 35999).samples).map Prod.fst = (evenTrain 35999 35999 35999).samples) ∧
    (([] : List Nat).length < 82 ∧ (granted (List.replicate 35999 true ++ alternatingRuns false [] ++
      List.replicate 36000 (runLevel 0))).map Prod.fst =
      List.replicate 35999 true ++ alternatingRuns false [] ++ List.replicate 36000 (runLevel 0)) ∧
    ((List.replicate 81 1).length < 82 ∧ (∀ n ∈ List.replicate 81 1, 1 ≤ n ∧ n ≤ 35999) ∧
      (granted (List.replicate 0 true ++ alternatingRuns false (List.replicate 81 1) ++
        List.replicate 36000 (runLevel 81))).map Prod.fst =
        List.replicate 0 true ++ alternatingRuns false (List.replicate 81 1) ++ List.replicate 36000 (runLevel 81)) ∧
    (granted (List.replicate 36000 true)).map Prod.fst = List.replicate 36000 true :=
  ⟨⟨rfl, rfl, by decide⟩,
    ⟨evenTrain_inRange (by decide) (by decide) (by decide), granted_fst _⟩,
    ⟨evenTrain_inRange (by decide) (by decide) (by decide), granted_fst _⟩,
    ⟨by decide, granted_fst _⟩, ⟨by decide, by decide, granted_fst _⟩, granted_fst _⟩

theorem witness_OnlyCompleteTrainsReachThreshold :
    (midway .ackWait 1 0).blk.phase = .ackWait ∧ (midway .ackWait 1 0).blk.icnt = 0 ∧
    (∃ t, PulseTrainInRange t ∧ (granted (evenTrain 0 1 1).samples).map Prod.fst = t.samples) ∧
    (List.replicate 80 1).length = 80 ∧ (∀ n ∈ List.replicate 80 1, 1 ≤ n) ∧
    (granted (List.replicate 5 true ++ alternatingRuns false (List.replicate 80 1) ++
      List.replicate 36000 false)).map Prod.fst =
      List.replicate 5 true ++ alternatingRuns false (List.replicate 80 1) ++ List.replicate 36000 false :=
  ⟨rfl, rfl, ⟨evenTrain 0 1 1, evenTrain_inRange (by decide) (by decide) (by decide), granted_fst _⟩,
    by decide, by decide, granted_fst _⟩

theorem witness_TransactionsEndWithinTheBound :
    ((midway .ackWait 1 0).blk.phase = .ackWait ∧ (midway .ackWait 1 0).blk.icnt = 0 ∧
      (List.replicate samplingBound (true, false)).length = samplingBound) ∧
    (State.reset.params.wellFormed = true ∧ State.reset.blk.busy = false ∧
      (List.replicate (transactionBound State.reset.params) (true, false)).length =
        transactionBound State.reset.params) :=
  ⟨⟨rfl, rfl, List.length_replicate⟩, rfl, rfl, List.length_replicate⟩

theorem countAt_midway_threshold (c : Count) {i : Nat} (h : i ≤ 81) : (midway .threshold c 0).blk.countAt i = c := by
  rw [countAt_midway _ _ _ h]
  exact if_pos (show i < 82 by omega)

theorem witness_ThresholdIsTheFlooredMean :
    ∀ i, i ≤ 81 → ((midway .threshold 35999 0).blk.countAt i).toNat ≤ 35999 := by
  intro i h
  rw [countAt_midway_threshold _ h]
  decide

/-- The least counts, and the largest with window 1 in the sum. -/
theorem witness_ThresholdStaysInRange :
    ((midway .threshold 1 0).params.ackInSum = false ∧
      ∀ i, i ≤ 81 → 1 ≤ ((midway .threshold 1 0).blk.countAt i).toNat ∧
        ((midway .threshold 1 0).blk.countAt i).toNat ≤ 35999) ∧
    ∃ s : State, s.params.ackInSum = true ∧
      ∀ i, i ≤ 81 → 1 ≤ (s.blk.countAt i).toNat ∧ (s.blk.countAt i).toNat ≤ 35999 := by
  refine ⟨⟨rfl, fun i h => ?_⟩, { midway .threshold 35999 0 with params := ⟨1, 2, true⟩ }, rfl, fun i h => ?_⟩
  · rw [countAt_midway_threshold _ h]
    decide
  · have hc : (midway .threshold 35999 0).blk.countAt i = 35999 := countAt_midway_threshold _ h
    rw [show State.blk { midway .threshold 35999 0 with params := ⟨1, 2, true⟩ } =
      (midway .threshold 35999 0).blk from rfl, hc]
    decide

/-- A buffer whose low counts are 2 and whose high counts are `h`. -/
def separated (h : Count) : State :=
  withBlk { Block.reset with pulse := Vector.ofFn fun i => if i.val % 2 = 0 then 2 else h }

theorem separated_counts {h : Count} (hh : 1 ≤ h.toNat ∧ h.toNat ≤ 35999) {i : Nat} (hi : i ≤ 81) :
    1 ≤ ((separated h).blk.countAt i).toNat ∧ ((separated h).blk.countAt i).toNat ≤ 35999 := by
  have : i < 82 := by omega
  by_cases hp : i % 2 = 0 <;> simp [separated, withBlk, Block.countAt, this, hp, hh]

/-- The sum of R170 on such a buffer. -/
def separatedTotal (h : Count) : Nat :=
  (Finset.range 40).sum (fun j => ((separated h).blk.countAt (2 * (j + 1))).toNat)
    + (if (separated h).params.ackInSum = true then ((separated h).blk.countAt 0).toNat else 0)

/-- A high count of exactly half and of exactly one and a half times the mean, the first and the last bit. -/
theorem witness_WellSeparatedPulsesReadCorrectly :
    0 < 40 ∧ 39 < 40 ∧
    (∀ i, i ≤ 81 → 1 ≤ ((separated 1).blk.countAt i).toNat ∧ ((separated 1).blk.countAt i).toNat ≤ 35999) ∧
    80 * ((separated 1).blk.countAt (2 * 0 + 3)).toNat ≤ separatedTotal 1 ∧
    (∀ i, i ≤ 81 → 1 ≤ ((separated 3).blk.countAt i).toNat ∧ ((separated 3).blk.countAt i).toNat ≤ 35999) ∧
    3 * separatedTotal 3 ≤ 80 * ((separated 3).blk.countAt (2 * 39 + 3)).toNat :=
  ⟨by decide, by decide, fun _ hi => separated_counts (by decide) hi, by decide,
    fun _ hi => separated_counts (by decide) hi, by decide⟩

/-- A sum that wraps and matches, and one that does not match (T18). -/
theorem witness_ValidateComparesTheChecksum :
    (0xFC = (0xFF + 0xFF + 0xFF + 0xFF) % 256 ∧
      (framed #v[0xFF, 0xFF, 0xFF, 0xFF, 0xFC]).blk.frame[4].toNat = 0xFC) ∧
    (framed #v[0xFF, 0xFF, 0xFF, 0xFF, 0xFF]).blk.frame[4].toNat ≠ (0xFF + 0xFF + 0xFF + 0xFF) % 256 ∧
    (midway .validate 1 0).Inv ∧ (midway .validate 1 0).blk.phase = .validate :=
  ⟨by decide, by decide, midway_inv (by decide) (by decide) (by decide), rfl⟩

/-- The hypothesis of R197 on a train and the bytes it encodes, `ACK_IN_SUM` = 0. -/
def encodes (t : PulseTrain) (bytes : Vector Byte 5) : Prop :=
  ∀ k, k < 40 → (bytes[k / 8]?).map (fun f => f.getLsbD (7 - k % 8)) =
    some (decide (((Finset.range 40).sum (fun j => t.runs[2 * (j + 1)]?.getD 0) + 0) / 40 ≤
      t.runs[2 * k + 3]?.getD 0))

/-- Highs below the mean give five 0 bytes, whose checksum agrees; highs equal to it give five bytes FF, whose
checksum does not. -/
theorem witness_EncodedFrameRoundTrips :
    ((midway .ackWait 1 0).Inv ∧ (midway .ackWait 1 0).blk.phase = .ackWait ∧ (midway .ackWait 1 0).blk.icnt = 0 ∧
      (midway .ackWait 1 0).params.ackInSum = false) ∧
    (PulseTrainInRange (evenTrain 0 3 1) ∧ encodes (evenTrain 0 3 1) #v[0, 0, 0, 0, 0] ∧
      (granted ((evenTrain 0 3 1).samples ++ List.replicate 5 true)).length = (evenTrain 0 3 1).samples.length + 5) ∧
    (PulseTrainInRange (evenTrain 35999 1 1) ∧ encodes (evenTrain 35999 1 1) #v[0xFF, 0xFF, 0xFF, 0xFF, 0xFF] ∧
      (0xFF : Nat) ≠ (0xFF + 0xFF + 0xFF + 0xFF) % 256 ∧
      (granted ((evenTrain 35999 1 1).samples ++ List.replicate 3 true)).length =
        (evenTrain 35999 1 1).samples.length + 3) :=
  ⟨⟨midway_inv (by decide) (by decide) (by decide), rfl, rfl, rfl⟩,
    ⟨evenTrain_inRange (by decide) (by decide) (by decide), by unfold encodes; decide, by simp [granted]⟩,
    evenTrain_inRange (by decide) (by decide) (by decide), by unfold encodes; decide, by decide, by simp [granted]⟩

/-- The first samples of such inputs are the train's. -/
theorem witness_EncodedFrameRoundTrips_samples (t : PulseTrain) (after : List Bool) :
    ((granted (t.samples ++ after)).take t.samples.length).map Prod.fst = t.samples := by
  simp [granted, Function.comp_def]

/-- One abort of each kind. -/
theorem witness_LineAfterAnAbort :
    (∃ t, (midway .claimOut 1 0).Inv ∧ (midway .claimOut 1 0).blk.busy = true ∧
      perform (.tick true true) (midway .claimOut 1 0) = .next t ∧ t.blk.err ≠ .ok) ∧
    (∃ t, (midway .sampleHigh 35999 0).Inv ∧ (midway .sampleHigh 35999 0).blk.busy = true ∧
      perform (.tick true false) (midway .sampleHigh 35999 0) = .next t ∧ t.blk.err ≠ .ok) ∧
    (∃ t, (midway .validate 1 0).Inv ∧ (midway .validate 1 0).blk.busy = true ∧
      perform (.tick true false) (midway .validate 1 0) = .next t ∧ t.blk.err ≠ .ok) :=
  ⟨⟨_, midway_inv (by decide) (by decide) (by decide), rfl, rfl, by decide⟩,
    ⟨_, midway_inv (by decide) (by decide) (by decide), rfl, rfl, by decide⟩,
    _, midway_inv (by decide) (by decide) (by decide), rfl, rfl, by decide⟩

theorem last_of_replicate {α : Type} (a b : α) (n : Nat) : (List.replicate n a ++ [b])[n]? = some b := by
  simp

theorem inner_of_replicate {α : Type} (a b : α) {k n : Nat} (h : k < n) :
    (List.replicate n a ++ [b])[k]? = some a := by
  simp [h, List.getElem?_append_left]

/-- 523 ticks with no refusal and one with: the second claim is the 524th (T28). -/
theorem witness_RefusedClaimsEndTheTransaction :
    State.reset.params.wellFormed = true ∧ State.reset.blk.busy = false ∧
    (List.replicate 523 (true, false) ++ [(true, true)]).length = 520 * State.reset.params.ticksPerMs + 4 ∧
    (List.replicate 523 (true, false) ++ [(true, true)])[1]?.map Prod.snd = some false ∧
    (List.replicate 523 (true, false) ++ [(true, true)])[520 * State.reset.params.ticksPerMs + 3]?.map Prod.snd =
      some true := by
  refine ⟨rfl, rfl, by rw [List.length_append, List.length_replicate]; rfl, ?_, ?_⟩
  · rw [inner_of_replicate _ _ (by decide)]
    rfl
  · rw [show 520 * State.reset.params.ticksPerMs + 3 = 523 from rfl, last_of_replicate]
    rfl

/-- The state after reset with these events listed. -/
def listed (es : List Event) : State := { State.reset with agenda := es }

theorem witness_StepRunsTheDecodedOperation :
    ((listed [.does (.hostWrite 0 1)]).agenda = .does (.hostWrite 0 1) :: [] ∧
      decode ⟨.cmd32, (1 : Word).toNat⟩ = .ok .read) ∧
    ((listed [.does (.tick true true)]).agenda = .does (.tick true true) :: [] ∧
      decode ⟨.phase4, (listed [.does (.tick true true)]).blk.phase.code.toNat⟩ = .ok .idle ∧
      decode ⟨.pad2, (listed [.does (.tick true true)]).padCmd.toNat⟩ = .ok .padNone) ∧
    (listed [.does (.hostRead 1)]).agenda = .does (.hostRead 1) :: [] ∧
    (listed [.does .reset]).agenda = .does .reset :: [] ∧
    (listed [.undefinedBusCycle]).agenda = .undefinedBusCycle :: [] :=
  ⟨⟨rfl, rfl⟩, ⟨rfl, rfl, rfl⟩, rfl, rfl, rfl⟩

theorem witness_StepsFollowTheAgenda :
    (listed [.does (.hostWrite 0 1), .does (.tick true false), .undefinedBusCycle]).agenda =
      [Transition.hostWrite 0 1, .tick true false].map Event.does ++ [.undefinedBusCycle] := rfl

theorem witness_InputsAreReadOnlyWhereStated :
    (∃ t, ¬ (midway .settle 1 0).blk.phase.samples ∧
      perform (.tick true false) (midway .settle 1 0) = .next t) ∧
    (∃ t, (midway .sampleLow 1 0).blk.phase ≠ .claimOut ∧ (midway .sampleLow 1 0).blk.phase ≠ .claimIn ∧
      perform (.tick true false) (midway .sampleLow 1 0) = .next t) :=
  ⟨⟨_, by simp [midway, Phase.samples], rfl⟩, _, by decide, by decide, rfl⟩

theorem witness_PhaseFollowsTheGraph :
    (∃ t, perform (.tick true true) (midway .claimIn 1 0) = .next t) ∧
    (∃ t, (ended .ok).Inv ∧ perform (.hostWrite 0 0x00000001#32) (ended .ok) = .next t) ∧
    (∃ t, perform (.hostRead 1) (ended .ok) = .next t) :=
  ⟨⟨_, rfl⟩, ⟨_, ended_inv (by decide), rfl⟩, _, rfl⟩

theorem witness_BusyBlockIgnoresTheHost : (midway .wakeHigh 1 0).blk.busy = true := rfl

theorem witness_EndedTransactionIsKept :
    ∃ t, (ended .ok).Inv ∧ (ended .ok).blk.busy = false ∧ perform (.tick true true) (ended .ok) = .next t :=
  ⟨_, ended_inv (by decide), rfl, rfl⟩

theorem witness_ParametersNeverChange : ∃ t, step (listed [.does .reset]) = .next t := ⟨_, rfl⟩

theorem witness_StepKeepsTheInvariant :
    ∃ t, (midway .sampleLow 35999 0).Inv ∧ { midway .sampleLow 35999 0 with agenda := [.does .reset] }.Inv ∧
      step { midway .sampleLow 35999 0 with agenda := [.does .reset] } = .next t :=
  have h : (midway .sampleLow 35999 0).Inv := midway_inv (by decide) (by decide) (by decide)
  ⟨_, h, ⟨h.params_ok, h.block_ok, h.pad_agrees⟩, rfl⟩

theorem witness_ReachableStatesMeetTheListedInvariants :
    ∃ t, step (listed [.does (.hostWrite 0 1)]) = .next t ∧ Reachable t ∧ t.blk.phase = .lineReset :=
  ⟨_, rfl, .afterStep _ _ (.afterReset (listed [.does (.hostWrite 0 1)]) rfl rfl) rfl, rfl⟩

theorem witness_InvariantStatesNeverStop :
    (ended .ok).Inv ∧ ∀ rest, (ended .ok).agenda ≠ .undefinedBusCycle :: rest :=
  ⟨ended_inv (by decide), fun _ => by simp [ended, withBlk, State.reset]⟩

theorem witness_OutcomeIndependentOfEarlierState :
    ∃ t, (ended .ok).params = (ended .timeout).params ∧ (ended .ok).blk.busy = false ∧
      (ended .timeout).blk.busy = false ∧ [(true, false)] ≠ [] ∧
      transaction [(true, false)] (ended .ok) = .next t :=
  ⟨_, rfl, rfl, rfl, by decide, rfl⟩

theorem witness_HostReadsDisturbNothing :
    ∃ t, performAll [.hostWrite 0 1, .hostRead 1, .tick true false, .hostRead 2] State.reset = .next t :=
  ⟨_, rfl⟩

/-- A pad that a `Reset()` left driving, and no tick yet (R242). -/
theorem witness_LineSeesTheWakeSequence_left_driven :
    ({ State.reset with padClaim := .out }).params.wellFormed = true ∧
    ({ State.reset with padClaim := .out }).blk.busy = false ∧
    claimsGranted ({ State.reset with padClaim := .out }).params [] ∧
    ([] : List (Bool × Bool)).length < 1 ∧ ({ State.reset with padClaim := .out }).padClaim = .out :=
  ⟨rfl, rfl, by simp [claimsGranted], by decide, rfl⟩

/-- Tick counts at the ends of each clause: 0, 1, 2, 501, 502, 522 and 523 with one tick a millisecond. -/
theorem witness_LineSeesTheWakeSequence :
    State.reset.params.wellFormed = true ∧ State.reset.blk.busy = false ∧ (midway .settle 1 0).blk.busy = true ∧
    ∀ n, claimsGranted State.reset.params (granted (List.replicate n true)) ∧
      (granted (List.replicate n true)).length = n :=
  ⟨rfl, rfl, rfl, fun _ => ⟨granted_claims _ _, by simp [granted]⟩⟩

/-- High levels to the first `ACK_WAIT` tick, a train, and five ticks more. -/
theorem witness_TransactionTickCount :
    State.reset.params.wellFormed = true ∧ State.reset.blk.busy = false ∧ PulseTrainInRange (evenTrain 0 3 1) ∧
    (let ins := granted (List.replicate (fixedPart State.reset.params) true ++
      ((evenTrain 0 3 1).samples ++ List.replicate 5 true))
    claimsGranted State.reset.params ins ∧
    ins.length = fixedPart State.reset.params + (evenTrain 0 3 1).samples.length + 5 ∧
    ((ins.drop (fixedPart State.reset.params)).take (evenTrain 0 3 1).samples.length).map Prod.fst =
      (evenTrain 0 3 1).samples) := by
  refine ⟨rfl, rfl, evenTrain_inRange (by decide) (by decide) (by decide), granted_claims _ _, ?_, ?_⟩
  · simp [granted, Nat.add_assoc]
  · simp [granted, Function.comp_def]

end Sys2Proof.Tests
end

section
/-! PROOFS. The scope statements (00_scope.md): what a tick reads of its inputs (R9) and what the block
presents on its outputs (R8, R88). -/

namespace Sys2Proof.Machine

/-! ### The outputs -/

/-- Every number on `pad_cmd` fits `PAD2`, so `decode` reads it as `decodePad2` does (R80, R90). -/
theorem decode_pad2 (c : BitVec 2) : decode ⟨.pad2, c.toNat⟩ = .ok (decodePad2 c) := by
  have hfits : (EncodedWord.mk .pad2 c.toNat).wellFormed = true := decide_eq_true c.isLt
  simp [decode, hfits]

/-- Settles O4: R88's column read off phase by phase, the other outputs by definition. -/
theorem outputsFollowPhaseAndFlags : Obligations.OutputsFollowPhaseAndFlags := by
  unfold Obligations.OutputsFollowPhaseAndFlags
  refine ⟨fun s => ?_, fun s => ?_, fun s => ⟨rfl, rfl, rfl⟩⟩
  · rw [State.padCmd]
    cases s.blk.phase <;> rfl
  · rw [decode_pad2, State.padCmd]
    cases s.blk.phase <;> rfl

/-! ### The inputs -/

/-- Counting a sample reads neither pin. -/
theorem countSample_withPins (d f : Bool) (s : State) :
    countSample (s.withPins d f) = andThen (countSample s) fun t => .next (t.withPins d f) := by
  by_cases hi : s.blk.idx.toNat ≤ 81
  · rw [countSample_eq s hi, countSample_eq (s.withPins d f) hi]
    rfl
  · rw [countSample_beyond s (by omega), countSample_beyond (s.withPins d f) (by simp; omega)]
    rfl

/-- Opening the next count reads neither pin. -/
theorem openNextCount_withPins (next : Phase) (d f : Bool) (s : State) :
    openNextCount next (s.withPins d f) =
      andThen (openNextCount next s) fun t => .next (t.withPins d f) := by
  by_cases hi : s.blk.idx.toNat + 1 ≤ 81
  · rw [openNextCount_eq next s hi, openNextCount_eq next (s.withPins d f) hi]
    rfl
  · rw [openNextCount_beyond next s (by omega), openNextCount_beyond next (s.withPins d f) (by simp; omega)]
    rfl

/-- R9: a tick with other inputs is the same tick, stops included, but for the pins, when `din` may differ
only outside the sampling phases and `pad_fail` only outside the two claims. -/
theorem tick_other_inputs {s : State} {d d' f f' : Bool} (hd : s.blk.phase.samples → d' = d)
    (hf : s.blk.phase = .claimOut ∨ s.blk.phase = .claimIn → f' = f) :
    tick d' f' s = andThen (tick d f s) fun t => .next (t.withPins d' f') := by
  cases hp : s.blk.phase with
  | idle => simp only [tick_idle _ _ hp]; rfl
  | lineReset => simp only [tick_lineReset _ _ hp]; rfl
  | claimOut =>
    obtain rfl : f' = f := hf (.inl hp)
    cases f'
    · simp only [tick_claimOut_granted _ hp]; rfl
    · simp only [tick_claimOut_refused _ hp]; rfl
  | wakeHigh => simp only [tick_wakeHigh _ _ hp]; rfl
  | wakeLow => simp only [tick_wakeLow _ _ hp]; rfl
  | releaseOut => simp only [tick_releaseOut _ _ hp]; rfl
  | claimIn =>
    obtain rfl : f' = f := hf (.inr hp)
    cases f'
    · simp only [tick_claimIn_granted _ hp]; rfl
    · simp only [tick_claimIn_refused _ hp]; rfl
  | settle => simp only [tick_settle _ _ hp]; rfl
  | ackWait =>
    obtain rfl : d' = d := hd (.inl hp)
    cases d'
    · simp only [tick_ackWait_low _ hp]; rfl
    · simp only [tick_ackWait_high _ hp]; rfl
  | sampleLow =>
    obtain rfl : d' = d := hd (.inr (.inl hp))
    cases d'
    · simp only [tick_sampleLow_low _ hp]
      exact countSample_withPins false f' (s.withPins false f)
    · simp only [tick_sampleLow_high _ hp]
      exact openNextCount_withPins .sampleHigh true f' (s.withPins true f)
  | sampleHigh =>
    obtain rfl : d' = d := hd (.inr (.inr hp))
    cases d'
    · by_cases hi : s.blk.idx = 81#7
      · simp only [tick_sampleHigh_low_last _ hp hi]; rfl
      · simp only [tick_sampleHigh_low _ hp hi]
        exact openNextCount_withPins .sampleLow false f' (s.withPins false f)
    · simp only [tick_sampleHigh_high _ hp]
      exact countSample_withPins true f' (s.withPins true f)
  | threshold => simp only [tick_threshold _ _ hp]; rfl
  | reconstruct => simp only [tick_reconstruct _ _ hp]; rfl
  | validate => simp only [tick_validate _ _ hp]; rfl
  | convert => simp only [tick_convert _ _ hp]; rfl
  | finish => simp only [tick_finish _ _ hp]; rfl

/-- `tick_other_inputs` for a tick that answers a next state. -/
theorem tick_other_inputs_next {s t : State} {d d' f f' : Bool} (h : tick d f s = .next t)
    (hd : s.blk.phase.samples → d' = d) (hf : s.blk.phase = .claimOut ∨ s.blk.phase = .claimIn → f' = f) :
    tick d' f' s = .next (t.withPins d' f') := by
  rw [tick_other_inputs hd hf, h, andThen_next]

/-- A tick leaves on the pins the inputs it was given: it is itself with the same inputs (R7, R33). -/
theorem tick_pins {s t : State} {d f : Bool} (h : tick d f s = .next t) : t.din = d ∧ t.padFail = f := by
  have hsame : t = t.withPins d f :=
    Host.Outcome.next.inj (h.symm.trans (tick_other_inputs_next h (fun _ => rfl) fun _ => rfl))
  rw [hsame]
  exact ⟨rfl, rfl⟩

/-- Settles O48: the tick with one other input, and the pin that keeps its value. -/
theorem inputsAreReadOnlyWhereStated : Obligations.InputsAreReadOnlyWhereStated := by
  unfold Obligations.InputsAreReadOnlyWhereStated
  refine ⟨fun s t d d' f hphase h => ?_, fun s t d f f' hout hin h => ?_⟩
  · have hother : tick d' f s = .next (t.withPins d' f) :=
      tick_other_inputs_next h (fun hs => absurd hs hphase) fun _ => rfl
    obtain ⟨-, rfl⟩ := tick_pins h
    exact hother
  · have hother : tick d f' s = .next (t.withPins d f') :=
      tick_other_inputs_next h (fun _ => rfl) fun hclaim => absurd hclaim (not_or.mpr ⟨hout, hin⟩)
    obtain ⟨rfl, -⟩ := tick_pins h
    exact hother

end Sys2Proof.Machine
end

section
/-! PROOFS. The state's invariants (10_state.md): every transition keeps `State.Inv`, so the items of R36 hold
in every reachable state, and `PHASE` follows the graph of R38. -/

namespace Sys2Proof.Machine

/-! ### Phases by rank -/

theorem Phase.ne_idle_of_rank_pos {q : Phase} (h : 0 < q.rank) : q ≠ .idle := by
  rintro rfl
  exact absurd h (by decide)

theorem Phase.claimHeld_of_settle_le {q : Phase} (h : Phase.settle.rank ≤ q.rank) : q.claimHeld = some .inp := by
  revert h
  cases q <;> simp [Phase.rank, Phase.code, Phase.claimHeld]

theorem Phase.waitLength_of_ackWait_le (p : Params) {q : Phase} (h : Phase.ackWait.rank ≤ q.rank) :
    q.waitLength p = 1 := by
  revert h
  cases q <;> simp [Phase.rank, Phase.code, Phase.waitLength]

theorem Phase.samples_of_rank {q : Phase} (hfrom : Phase.settle.rank < q.rank) (hto : q.rank < Phase.threshold.rank) :
    q.samples := by
  revert hfrom hto
  cases q <;> simp [Phase.rank, Phase.code, Phase.samples]

/-- The two phases that count samples in the buffer. -/
theorem Phase.rank_of_counting {q : Phase} (h : q = .sampleLow ∨ q = .sampleHigh) :
    Phase.ackWait.rank < q.rank ∧ q.rank < Phase.threshold.rank := by
  rcases h with rfl | rfl <;> decide

/-- No fixed wait is of length 0 (R5). -/
theorem Phase.waitLength_pos {p : Params} (h : p.wellFormed = true) (q : Phase) : 0 < q.waitLength p := by
  simp only [Params.wellFormed, Bool.and_eq_true, decide_eq_true_eq] at h
  obtain ⟨⟨hms, -⟩, hsettle, -⟩ := h
  cases q <;> simp [Phase.waitLength, Params.nWakeHigh, Params.nWakeLow, Config.wakeHighMs, Config.wakeLowMs] <;> omega

/-- Every phase but `IDLE` and `LINE_RESET` records a claim (R36 j). -/
theorem Phase.claimHeld_isSome {q : Phase} (h : Phase.claimOut.rank ≤ q.rank) : ∃ c, q.claimHeld = some c := by
  revert h
  cases q <;> simp [Phase.rank, Phase.code, Phase.claimHeld]

/-! ### Blocks that meet the invariant -/

section
variable {p : Params} {b : Block}

/-- The flags of a block in the middle of a transaction (R36 a to c). -/
theorem Block.MeetsR36.flags_of_active (h : b.MeetsR36) (hphase : b.phase ≠ .idle) :
    b.busy = true ∧ b.done = false ∧ b.err = .ok := by
  have hbusy : b.busy = true := h.busy_iff_active.mpr hphase
  have hdone : b.done = false := Bool.eq_false_iff.mpr fun hd => h.not_busy_and_done ⟨hbusy, hd⟩
  exact ⟨hbusy, hdone, not_not.mp fun he => absurd (h.error_means_done he) (by simp [hdone])⟩

/-- In `IDLE` only the flags, `IDX`, `WCNT`, the results and the claim left still matter. -/
theorem Block.inv_of_idle (hphase : b.phase = .idle) (hbusy : b.busy = false)
    (hdone : b.err ≠ .ok → b.done = true) (hcode : b.err.code.toNat ≤ 3)
    (hzero : b.err ≠ .ok → b.readReg 2 = 0 ∧ b.readReg 3 = 0) (hidx : b.idx.toNat ≤ 81)
    (hwait : b.wcnt.toNat < 1) (hclaim : b.done = true → b.claim = b.err.claimLeft) : b.Inv p where
  busy_iff_active := by simp [hphase, hbusy]
  not_busy_and_done := by simp [hbusy]
  error_means_done := hdone
  error_in_range := hcode
  error_means_zero := hzero
  index_parity := by simp [hphase]
  index_in_buffer := hidx
  counts_below_ceiling := by simp [hbusy]
  counts_while_sampling := by simp [hphase]
  counts_when_decoding := fun h => absurd (hphase ▸ h) (by decide)
  claim_in_phase := by simp [hphase, Phase.claimHeld]
  level_while_waking := by simp [hphase]
  wait_below_length := by rw [hphase]; exact hwait
  counts_clear := fun h => absurd hphase h
  initial_count_clear := fun h => absurd hphase h
  sum_clear := fun h => absurd hphase h
  frame_clear := fun h => absurd hphase h
  results_clear := fun h => absurd hphase h
  level_after_waking := fun h => absurd (hphase ▸ h) (by decide)
  claim_after_end := hclaim

theorem Block.inv_reset (p : Params) : Block.reset.Inv p :=
  Block.inv_of_idle rfl rfl (by simp) (by decide) (by simp) (by simp) (by simp) (by simp)

/-- The accepted `READ` clears everything but `CLAIM`, whatever stood before (R110). -/
theorem Block.inv_startTransaction (p : Params) (b : Block) : b.startTransaction.Inv p :=
  have hcounts : ∀ i, b.startTransaction.countAt i = 0 := countAt_of_cleared rfl
  { busy_iff_active := by simp
    not_busy_and_done := by simp
    error_means_done := by simp
    error_in_range := by simp [ErrCode.code]
    error_means_zero := by simp
    index_parity := by simp
    index_in_buffer := by simp
    counts_below_ceiling := by simp [hcounts]
    counts_while_sampling := by simp
    counts_when_decoding := fun h => absurd (show Phase.threshold.rank ≤ Phase.lineReset.rank from h) (by decide)
    claim_in_phase := by simp [Phase.claimHeld]
    level_while_waking := by simp
    wait_below_length := by simp [Phase.waitLength]
    counts_clear := fun _ _ i _ => hcounts i
    initial_count_clear := by simp
    sum_clear := by simp
    frame_clear := by simp
    results_clear := by simp
    level_after_waking := fun h => absurd (show Phase.wakeLow.rank ≤ Phase.lineReset.rank from h) (by decide)
    claim_after_end := by simp }

/-- An abort, whatever the tick that raises it has counted (R215): nothing is converted yet, and the claim
that the phase holds is the one the error leaves. -/
theorem Block.Inv.abort (h : b.Inv p) {e : ErrCode} (he : e.code.toNat ≤ 3) {q : Phase} (hphase : b.phase = q)
    (hidle : q ≠ .idle) (hfinish : q ≠ .finish) (hwait : q.waitLength p = 1)
    (hclaim : q.claimHeld = some e.claimLeft) (v : Vector Count 82) (n : Count) :
    (Block.abort e { b with pulse := v, icnt := n }).Inv p := by
  subst hphase
  obtain ⟨hhum, htemp, hmag, hneg⟩ := h.results_clear hidle hfinish
  refine Block.inv_of_idle rfl rfl (fun _ => rfl) he (fun _ => ?_) h.index_in_buffer
    (hwait ▸ h.wait_below_length) (fun _ => h.claim_in_phase _ hclaim)
  simp [Block.readReg, hhum, htemp, hmag, hneg]

/-- A move before sampling: `CLAIM`, `WCNT`, `LEVEL` and `PHASE` change, the cleared elements stay. -/
theorem Block.Inv.move_before_sampling (h : b.Inv p) (hphase : b.phase ≠ .idle)
    (hrank : b.phase.rank ≤ Phase.settle.rank) {q : Phase} {c : Claim} {w : BitVec 32} {l : Bool}
    (hq : q ≠ .idle) (hqrank : q.rank ≤ Phase.ackWait.rank) (hclaim : ∀ x, q.claimHeld = some x → c = x)
    (hwait : w.toNat < q.waitLength p) (hlevel : l = decide (q.rank < Phase.wakeLow.rank)) :
    Block.Inv p { b with claim := c, wcnt := w, level := l, phase := q } := by
  obtain ⟨hbusy, hdone, herr⟩ := h.flags_of_active hphase
  have hclear : ∀ i, i ≤ 81 → b.countAt i = 0 := h.counts_clear hphase (hrank.trans (by decide))
  exact
  { h with
    busy_iff_active := by simp [hbusy, hq]
    index_parity := by
      constructor <;> rintro rfl <;> exact absurd hqrank (by decide)
    counts_while_sampling := by
      rintro (rfl | rfl) <;> exact absurd hqrank (by decide)
    counts_when_decoding := fun hr => absurd (hr.trans hqrank) (by decide)
    claim_in_phase := hclaim
    level_while_waking := by
      rintro (rfl | rfl | rfl) <;> exact hlevel
    wait_below_length := hwait
    counts_clear := fun _ _ => hclear
    initial_count_clear := fun _ _ => h.initial_count_clear hphase hrank
    sum_clear := fun _ _ => h.sum_clear hphase (hrank.trans (by decide))
    frame_clear := fun _ _ => h.frame_clear hphase (hrank.trans (by decide))
    results_clear := fun _ _ => h.results_clear hphase fun hf => absurd (hf ▸ hrank) (by decide)
    level_after_waking := fun hr => hlevel.trans (decide_eq_false (Nat.not_lt.mpr hr))
    claim_after_end := fun hd => absurd hd (by simp [hdone]) }

/-- One more tick of a fixed wait that does not end with it (R31). -/
theorem Block.Inv.count_wait (h : b.Inv p) (hmore : b.wcnt.toNat + 1 ≠ b.phase.waitLength p) :
    Block.Inv p { b with wcnt := b.wcnt + 1 } := by
  have hwait := h.wait_below_length
  exact { h with wait_below_length := show (b.wcnt + 1).toNat < b.phase.waitLength p by bv_omega }

/-- One more high sample in `ACK_WAIT`, below the ceiling (R151). -/
theorem Block.Inv.count_initial (h : b.Inv p) (hphase : b.phase = .ackWait) (hbelow : b.icnt.toNat ≠ 35999) :
    Block.Inv p { b with icnt := b.icnt + 1 } := by
  have hbusy : b.busy = true := h.busy_iff_active.mpr (by simp [hphase])
  obtain ⟨hcounts, hicnt⟩ := h.counts_below_ceiling hbusy
  exact
  { h with
    counts_below_ceiling := fun _ => ⟨hcounts, show (b.icnt + 1).toNat ≤ 35999 by bv_omega⟩
    initial_count_clear := fun _ hr => absurd (hphase ▸ hr) (by decide) }

/-- A sample that leaves the value `x`, in range, in the entry `k` that is then the current one (R151 to
R153): the entries before `k` are in use and those after it clear. -/
theorem Block.Inv.move_sampling (h : b.Inv p) (hfrom : Phase.ackWait.rank ≤ b.phase.rank)
    (hto : b.phase.rank < Phase.threshold.rank) {q : Phase} {i : BitVec 7} {k : Nat} {x : Count}
    (hq : q = .sampleLow ∧ k % 2 = 0 ∨ q = .sampleHigh ∧ k % 2 = 1) (hi : i.toNat = k) (hk : k ≤ 81)
    (hx : 1 ≤ x.toNat ∧ x.toNat ≤ 35999) (hused : ∀ j, j < k → 1 ≤ (b.countAt j).toNat)
    (hclear : ∀ j, j ≤ 81 → k < j → b.countAt j = 0) :
    Block.Inv p { b.setCount k x with idx := i, phase := q } := by
  have hactive : b.phase ≠ .idle := Phase.ne_idle_of_rank_pos (lt_of_lt_of_le (by decide) hfrom)
  obtain ⟨hbusy, hdone, herr⟩ := h.flags_of_active hactive
  obtain ⟨hcounts, hicnt⟩ := h.counts_below_ceiling hbusy
  obtain ⟨hqfrom, hqto⟩ := Phase.rank_of_counting (hq.imp And.left And.left)
  have hcount : ∀ j, (b.setCount k x).countAt j = if k = j then x else b.countAt j := fun j => by
    split
    next hkj => exact hkj ▸ countAt_setCount_same b x (by omega)
    next hkj => exact countAt_setCount_other b x hkj
  exact
  { h with
    busy_iff_active := by
      simp [hbusy, Phase.ne_idle_of_rank_pos (Nat.zero_lt_of_lt hqfrom)]
    index_parity := by
      rcases hq with ⟨rfl, hpar⟩ | ⟨rfl, hpar⟩ <;> simp [hi, hpar]
    index_in_buffer := hi.trans_le hk
    counts_below_ceiling := fun _ => ⟨fun j hj => by
      show ((b.setCount k x).countAt j).toNat ≤ 35999
      rw [hcount]
      split
      · exact hx.2
      · exact hcounts j hj, hicnt⟩
    counts_while_sampling := fun _ j hj => by
      show (j ≤ i.toNat → 1 ≤ ((b.setCount k x).countAt j).toNat) ∧
        (i.toNat < j → (b.setCount k x).countAt j = 0)
      rw [hi, hcount]
      split
      next hkj => exact ⟨fun _ => hx.1, fun hlt => absurd hkj hlt.ne⟩
      next hkj => exact ⟨fun hle => hused j (by omega), hclear j hj⟩
    counts_when_decoding := fun hr => absurd hr (Nat.not_le.mpr hqto)
    claim_in_phase := fun c hc => h.claim_in_phase c <| by
      rwa [Phase.claimHeld_of_settle_le (le_trans (by decide) hfrom),
        ← Phase.claimHeld_of_settle_le (le_trans (by decide) hqfrom.le)]
    level_while_waking := by
      rintro (rfl | rfl | rfl) <;> exact absurd hqfrom (by decide)
    wait_below_length := by
      rw [Phase.waitLength_of_ackWait_le p hqfrom.le, ← Phase.waitLength_of_ackWait_le p hfrom]
      exact h.wait_below_length
    counts_clear := fun _ hr => absurd hr (Nat.not_le.mpr hqfrom)
    initial_count_clear := fun _ hr => absurd (lt_of_lt_of_le hqfrom hr) (by decide)
    sum_clear := fun _ _ => h.sum_clear hactive hto.le
    frame_clear := fun _ _ => h.frame_clear hactive (hto.le.trans (by decide))
    results_clear := fun _ _ => h.results_clear hactive fun hf => absurd (hf ▸ hto) (by decide)
    level_after_waking := fun _ => h.level_after_waking (le_trans (by decide) hfrom)
    claim_after_end := fun hd => absurd hd (by simp [hdone]) }

/-- A move after sampling, the buffer complete: `SUM`, `THRESH`, `FRAME` and the results change, each not
before its phase, and the line's elements and the counts stay. -/
theorem Block.Inv.move_decoding (h : b.Inv p) (hfrom : Phase.ackWait.rank ≤ b.phase.rank)
    (hcounts : ∀ i, i ≤ 81 → 1 ≤ (b.countAt i).toNat) {q : Phase} (hq : Phase.threshold.rank ≤ q.rank)
    {sum : BitVec 21} {thresh : Count} {frame : Vector Byte 5} {hum temp : BitVec 16} {mag : BitVec 15} {neg : Bool}
    (hsum : q.rank ≤ Phase.threshold.rank → sum = 0 ∧ thresh = 0)
    (hframe : q.rank ≤ Phase.reconstruct.rank → frame = Vector.replicate 5 0)
    (hresults : q ≠ .finish → hum = 0 ∧ temp = 0 ∧ mag = 0 ∧ neg = false) :
    Block.Inv p { b with
      sum := sum, thresh := thresh, frame := frame, humX10 := hum, tempX10 := temp, tempMag := mag
      tempNeg := neg, phase := q } := by
  have hactive : b.phase ≠ .idle := Phase.ne_idle_of_rank_pos (lt_of_lt_of_le (by decide) hfrom)
  obtain ⟨hbusy, hdone, herr⟩ := h.flags_of_active hactive
  exact
  { h with
    busy_iff_active := by
      simp [hbusy, Phase.ne_idle_of_rank_pos (lt_of_lt_of_le (by decide) hq)]
    error_means_zero := fun he => absurd herr he
    index_parity := by
      constructor <;> rintro rfl <;> exact absurd hq (by decide)
    counts_while_sampling := by
      rintro (rfl | rfl) <;> exact absurd hq (by decide)
    counts_when_decoding := fun _ => hcounts
    claim_in_phase := fun c hc => h.claim_in_phase c <| by
      rwa [Phase.claimHeld_of_settle_le (le_trans (by decide) hfrom),
        ← Phase.claimHeld_of_settle_le (le_trans (by decide) hq)]
    level_while_waking := by
      rintro (rfl | rfl | rfl) <;> exact absurd hq (by decide)
    wait_below_length := by
      rw [Phase.waitLength_of_ackWait_le p (le_trans (by decide) hq), ← Phase.waitLength_of_ackWait_le p hfrom]
      exact h.wait_below_length
    counts_clear := fun _ hr => absurd (hq.trans hr) (by decide)
    initial_count_clear := fun _ hr => absurd (hq.trans hr) (by decide)
    sum_clear := fun _ => hsum
    frame_clear := fun _ => hframe
    results_clear := fun _ => hresults
    level_after_waking := fun _ => h.level_after_waking (le_trans (by decide) hfrom)
    claim_after_end := fun hd => absurd hd (by simp [hdone]) }

end

/-! ### States that meet the invariant -/

section
variable {s : State}

/-- From `CLAIM_OUT` on the pad holds the claim the block has recorded. -/
theorem State.Inv.padClaim_eq (h : s.Inv) (hrank : Phase.claimOut.rank ≤ s.blk.phase.rank) :
    s.padClaim = s.blk.claim := by
  obtain ⟨c, hc⟩ := Phase.claimHeld_isSome hrank
  exact (h.pad_agrees.1 c hc).trans (h.block_ok.claim_in_phase c hc).symm

theorem State.inv_of_padClaim_eq (hparams : s.params.wellFormed = true) (hblk : s.blk.Inv s.params)
    (hpad : s.padClaim = s.blk.claim) : s.Inv :=
  ⟨hparams, hblk, fun c hc => hpad.trans (hblk.claim_in_phase c hc), fun _ => hpad⟩

theorem State.Inv.withPins (h : s.Inv) (d f : Bool) : (s.withPins d f).Inv :=
  ⟨h.params_ok, h.block_ok, h.pad_agrees⟩

/-- An operation that keeps `CLAIM`, in a tick in which the pad keeps its claim. -/
theorem State.Inv.onBlock (h : s.Inv) {q : Phase} (hphase : s.blk.phase = q)
    (hrank : Phase.claimOut.rank ≤ q.rank) {g : Block → Block} (hblk : (g s.blk).Inv s.params)
    (hclaim : (g s.blk).claim = s.blk.claim) : (s.onBlock g).Inv :=
  State.inv_of_padClaim_eq h.params_ok hblk ((h.padClaim_eq (hphase ▸ hrank)).trans hclaim.symm)

/-! ### What a tick keeps -/

/-- A tick of a fixed wait (R31) keeps the invariant if the block with which the wait ends does. -/
theorem State.Inv.wait (h : s.Inv) {q : Phase} (hphase : s.blk.phase = q)
    (hrank : Phase.claimOut.rank ≤ q.rank) {n : Nat} (hn : q.waitLength s.params = n)
    {onEnd : Block → Block} (hblk : (onEnd s.blk).Inv s.params)
    (hclaim : (onEnd s.blk).claim = s.blk.claim) :
    (s.onBlock fun b => if s.blk.wcnt.toNat + 1 = n then onEnd b else { b with wcnt := b.wcnt + 1 }).Inv := by
  split
  next => exact h.onBlock hphase hrank hblk hclaim
  next hmore => exact h.onBlock hphase hrank (h.block_ok.count_wait (by rwa [hphase, hn])) rfl

/-- A claim the pad refuses: the abort, and no claim on the pad (R131, R135, R216). -/
theorem State.Inv.claim_refused (h : s.Inv) (hphase : s.blk.phase = .claimOut ∨ s.blk.phase = .claimIn) :
    State.Inv { s.onBlock (Block.abort .gpioClaimFail) with padClaim := .none } := by
  have hb := h.block_ok
  have hheld : s.blk.phase.claimHeld = some .none := by rcases hphase with hp | hp <;> rw [hp] <;> rfl
  refine State.inv_of_padClaim_eq h.params_ok ?_ (hb.claim_in_phase _ hheld).symm
  rcases hphase with hp | hp <;>
    exact hb.abort (e := .gpioClaimFail) (by decide) hp (by decide) (by decide) rfl rfl _ _

/-- A sample at the level being counted (R154, R36 f to h). -/
theorem countSample_inv (h : s.Inv) (hphase : s.blk.phase = .sampleLow ∨ s.blk.phase = .sampleHigh) :
    ∃ t, countSample s = .next t ∧ t.Inv := by
  have hb := h.block_ok
  obtain ⟨hfrom, hto⟩ := Phase.rank_of_counting hphase
  have hactive : s.blk.phase ≠ .idle := Phase.ne_idle_of_rank_pos (Nat.zero_lt_of_lt hfrom)
  have hcounts := hb.counts_while_sampling hphase
  have hceil := (hb.counts_below_ceiling (hb.busy_iff_active.mpr hactive)).1 _ hb.index_in_buffer
  have hcurrent := (hcounts _ hb.index_in_buffer).1 le_rfl
  refine ⟨_, countSample_eq s hb.index_in_buffer, h.onBlock rfl (le_trans (by decide) hfrom.le) ?_ ?_⟩
  · dsimp only
    split
    next =>
      exact hb.abort (e := .timeout) (by decide) rfl hactive (fun hf => absurd (hf ▸ hto) (by decide))
        (Phase.waitLength_of_ackWait_le _ hfrom.le) (Phase.claimHeld_of_settle_le (le_trans (by decide) hfrom.le)) _ _
    next hbelow =>
      refine hb.move_sampling hfrom.le hto ?_ rfl hb.index_in_buffer ?_
        (fun j hj => (hcounts j (by have := hb.index_in_buffer; omega)).1 hj.le) (fun j hj => (hcounts j hj).2)
      · exact hphase.imp (fun hp => ⟨hp, hb.index_parity.1 hp⟩) (fun hp => ⟨hp, hb.index_parity.2 hp⟩)
      · bv_omega
  · dsimp only
    split <;> rfl

/-- A sample at the other level (R36 f to h). -/
theorem openNextCount_inv (h : s.Inv) {q : Phase}
    (hphase : s.blk.phase = .sampleLow ∧ q = .sampleHigh ∨
      s.blk.phase = .sampleHigh ∧ q = .sampleLow ∧ s.blk.idx ≠ 81#7) :
    ∃ t, openNextCount q s = .next t ∧ t.Inv := by
  have hb := h.block_ok
  have hsamples : s.blk.phase = .sampleLow ∨ s.blk.phase = .sampleHigh := hphase.imp And.left And.left
  obtain ⟨hfrom, hto⟩ := Phase.rank_of_counting hsamples
  have hcounts := hb.counts_while_sampling hsamples
  have hidx := hb.index_in_buffer
  have hroom : s.blk.idx.toNat + 1 ≤ 81 := by
    rcases hphase with ⟨hp, -⟩ | ⟨-, -, hlast⟩
    · have := hb.index_parity.1 hp
      omega
    · bv_omega
  refine ⟨_, openNextCount_eq q s hroom, h.onBlock rfl (le_trans (by decide) hfrom.le) ?_ rfl⟩
  refine hb.move_sampling hfrom.le hto ?_ (by bv_omega) hroom (by decide)
    (fun j hj => (hcounts j (by omega)).1 (by omega)) (fun j hj hlt => (hcounts j hj).2 (by omega))
  rcases hphase with ⟨hp, rfl⟩ | ⟨hp, rfl, -⟩
  · have := hb.index_parity.1 hp
    exact .inr ⟨rfl, by omega⟩
  · have := hb.index_parity.2 hp
    exact .inl ⟨rfl, by omega⟩

/-- A tick of line control (R130 to R136). -/
theorem tick_inv_of_line_control (d f : Bool) (h : s.Inv) (hactive : s.blk.phase ≠ .idle)
    (hrank : s.blk.phase.rank ≤ Phase.settle.rank) : ∃ t, tick d f s = .next t ∧ t.Inv := by
  have hb := h.block_ok
  have hpins := h.withPins d f
  have hpos := Phase.waitLength_pos h.params_ok
  have hwait := hb.wait_below_length
  cases hp : s.blk.phase with
  | lineReset =>
    refine ⟨_, tick_lineReset d f hp, State.inv_of_padClaim_eq h.params_ok ?_ rfl⟩
    exact hb.move_before_sampling hactive hrank (by decide) (by decide) (by simp [Phase.claimHeld])
      (by rw [hp] at hwait; exact hwait) (hb.level_while_waking (.inl hp))
  | claimOut =>
    cases f
    · refine ⟨_, tick_claimOut_granted d hp, State.inv_of_padClaim_eq h.params_ok ?_ rfl⟩
      exact hb.move_before_sampling hactive hrank (by decide) (by decide) (by simp [Phase.claimHeld])
        (hpos .wakeHigh) (hb.level_while_waking (.inr (.inl hp)))
    · exact ⟨_, tick_claimOut_refused d hp, (h.withPins d true).claim_refused (.inl hp)⟩
  | wakeHigh =>
    refine ⟨_, tick_wakeHigh d f hp, hpins.wait hp (by decide) rfl ?_ rfl⟩
    exact hb.move_before_sampling hactive hrank (by decide) (by decide)
      (fun c hc => hb.claim_in_phase c (hp ▸ hc)) (hpos .wakeLow) rfl
  | wakeLow =>
    refine ⟨_, tick_wakeLow d f hp, hpins.wait hp (by decide) rfl ?_ rfl⟩
    exact hb.move_before_sampling hactive hrank (by decide) (by decide)
      (fun c hc => hb.claim_in_phase c (hp ▸ hc)) (hpos .releaseOut) (hb.level_after_waking (by rw [hp]))
  | releaseOut =>
    refine ⟨_, tick_releaseOut d f hp, State.inv_of_padClaim_eq h.params_ok ?_ rfl⟩
    exact hb.move_before_sampling hactive hrank (by decide) (by decide) (by simp [Phase.claimHeld])
      (by rw [hp] at hwait; exact hwait) (hb.level_after_waking (by rw [hp]; decide))
  | claimIn =>
    cases f
    · refine ⟨_, tick_claimIn_granted d hp, State.inv_of_padClaim_eq h.params_ok ?_ rfl⟩
      exact hb.move_before_sampling hactive hrank (by decide) (by decide) (by simp [Phase.claimHeld])
        (hpos .settle) (hb.level_after_waking (by rw [hp]; decide))
    · exact ⟨_, tick_claimIn_refused d hp, (h.withPins d true).claim_refused (.inr hp)⟩
  | settle =>
    refine ⟨_, tick_settle d f hp, hpins.wait hp (by decide) rfl ?_ rfl⟩
    exact hb.move_before_sampling hactive hrank (by decide) (by decide)
      (fun c hc => hb.claim_in_phase c (hp ▸ hc)) (hpos .ackWait) (hb.level_after_waking (by rw [hp]; decide))
  | idle => exact absurd hp hactive
  | ackWait | sampleLow | sampleHigh | threshold | reconstruct | validate | convert | finish =>
    rw [hp] at hrank
    exact absurd hrank (by decide)

/-- A tick of sampling (R151 to R153). -/
theorem tick_inv_of_sampling (d f : Bool) (h : s.Inv) (hsamples : s.blk.phase.samples) :
    ∃ t, tick d f s = .next t ∧ t.Inv := by
  have hb := h.block_ok
  have hpins := h.withPins d f
  rcases hsamples with hp | hp | hp
  · cases d
    · refine ⟨_, tick_ackWait_low f hp, hpins.onBlock hp (by decide) ?_ rfl⟩
      exact hb.move_sampling (by rw [hp]) (by rw [hp]; decide) (.inl ⟨rfl, rfl⟩) rfl (by decide) (by decide)
        (fun j hj => absurd hj (Nat.not_lt_zero j))
        (fun j hj _ => hb.counts_clear (by simp [hp]) (by rw [hp]) j hj)
    · refine ⟨_, tick_ackWait_high f hp, hpins.onBlock hp (by decide) ?_ ?_⟩
      · dsimp only
        split
        next =>
          exact hb.abort (e := .timeout) (by decide) hp (by decide) (by decide) rfl rfl _ _
        next hbelow => exact hb.count_initial hp hbelow
      · dsimp only
        split <;> rfl
  · cases d
    · rw [tick_sampleLow_low f hp]
      exact countSample_inv hpins (.inl hp)
    · rw [tick_sampleLow_high f hp]
      exact openNextCount_inv hpins (.inl ⟨hp, rfl⟩)
  · cases d
    · by_cases hlast : s.blk.idx = 81#7
      · refine ⟨_, tick_sampleHigh_low_last f hp hlast, hpins.onBlock hp (by decide) ?_ rfl⟩
        have hcounts := hb.counts_while_sampling (.inr hp)
        have hclear := hb.sum_clear (by simp [hp]) (by rw [hp]; decide)
        exact hb.move_decoding (by rw [hp]; decide) (fun i hi => (hcounts i hi).1 (by simpa [hlast] using hi)) le_rfl
          (fun _ => hclear) (fun _ => hb.frame_clear (by simp [hp]) (by rw [hp]; decide))
          (fun _ => hb.results_clear (by simp [hp]) (by simp [hp]))
      · rw [tick_sampleHigh_low f hp hlast]
        exact openNextCount_inv hpins (.inr ⟨hp, rfl, hlast⟩)
    · rw [tick_sampleHigh_high f hp]
      exact countSample_inv hpins (.inr hp)

/-- A tick of decoding, validation or conversion, or the last tick (R170, R173, R190, R192, R195). -/
theorem tick_inv_of_decoding (d f : Bool) (h : s.Inv) (hrank : Phase.threshold.rank ≤ s.blk.phase.rank) :
    ∃ t, tick d f s = .next t ∧ t.Inv := by
  have hb := h.block_ok
  have hpins := h.withPins d f
  have hfrom : Phase.ackWait.rank ≤ s.blk.phase.rank := le_trans (by decide) hrank
  have hactive : s.blk.phase ≠ .idle := Phase.ne_idle_of_rank_pos (lt_of_lt_of_le (by decide) hrank)
  have hcounts := hb.counts_when_decoding hrank
  cases hp : s.blk.phase with
  | threshold =>
    refine ⟨_, tick_threshold d f hp, hpins.onBlock hp (by decide) ?_ rfl⟩
    exact hb.move_decoding hfrom hcounts (by decide) (fun hr => absurd hr (by decide))
      (fun _ => hb.frame_clear hactive (by rw [hp]; decide)) (fun _ => hb.results_clear hactive (by simp [hp]))
  | reconstruct =>
    refine ⟨_, tick_reconstruct d f hp, hpins.onBlock hp (by decide) ?_ rfl⟩
    exact hb.move_decoding hfrom hcounts (by decide) (fun hr => absurd hr (by decide))
      (fun hr => absurd hr (by decide)) (fun _ => hb.results_clear hactive (by simp [hp]))
  | validate =>
    refine ⟨_, tick_validate d f hp, hpins.onBlock hp (by decide) ?_ ?_⟩
    · split
      next =>
        exact hb.move_decoding hfrom hcounts (by decide) (fun hr => absurd hr (by decide))
          (fun hr => absurd hr (by decide)) (fun _ => hb.results_clear hactive (by simp [hp]))
      next =>
        exact hb.abort (e := .checksumFail) (by decide) hp (by decide) (by decide) rfl rfl _ _
    · split <;> rfl
  | convert =>
    refine ⟨_, tick_convert d f hp, hpins.onBlock hp (by decide) ?_ rfl⟩
    exact hb.move_decoding hfrom hcounts (by decide) (fun hr => absurd hr (by decide))
      (fun hr => absurd hr (by decide)) (fun hne => absurd rfl hne)
  | finish =>
    refine ⟨_, tick_finish d f hp, State.inv_of_padClaim_eq h.params_ok ?_ rfl⟩
    have hwait := hb.wait_below_length
    rw [hp] at hwait
    exact Block.inv_of_idle rfl rfl (fun _ => rfl) (show ErrCode.ok.code.toNat ≤ 3 by decide)
      (fun he => absurd rfl he) hb.index_in_buffer hwait (fun _ => rfl)
  | idle | lineReset | claimOut | wakeHigh | wakeLow | releaseOut | claimIn | settle | ackWait | sampleLow
  | sampleHigh =>
    rw [hp] at hrank
    exact absurd hrank (by decide)

/-- Every tick answers a next state and keeps the invariant (R7, R36). -/
theorem tick_inv (d f : Bool) (h : s.Inv) : ∃ t, tick d f s = .next t ∧ t.Inv := by
  by_cases hidle : s.blk.phase = .idle
  · exact ⟨_, tick_idle d f hidle, h.withPins d f⟩
  by_cases hline : s.blk.phase.rank ≤ Phase.settle.rank
  · exact tick_inv_of_line_control d f h hidle hline
  by_cases hdecode : Phase.threshold.rank ≤ s.blk.phase.rank
  · exact tick_inv_of_decoding d f h hdecode
  · exact tick_inv_of_sampling d f h (Phase.samples_of_rank (not_le.mp hline) (not_le.mp hdecode))

/-! ### What the other transitions keep -/

/-- Every host write answers a next state and keeps the invariant (R61, R91, R110, R111). -/
theorem hostWrite_inv (n : Nat) (v : Word) (h : s.Inv) : ∃ t, perform (.hostWrite n v) s = .next t ∧ t.Inv := by
  by_cases hread : n = 0 ∧ v = 1#32
  · obtain ⟨rfl, rfl⟩ := hread
    cases hbusy : s.blk.busy
    · exact ⟨_, hostWrite_read_idle hbusy, h.params_ok, Block.inv_startTransaction _ _,
        by simp [Phase.claimHeld], by simp⟩
    · exact ⟨_, hostWrite_read_busy hbusy, h⟩
  · exact ⟨_, hostWrite_other hread, h⟩

/-- Every transition answers a next state and keeps the invariant (R7, R36). -/
theorem perform_inv (r : Transition) (h : s.Inv) : ∃ t, perform r s = .next t ∧ t.Inv := by
  cases r with
  | reset => exact ⟨_, rfl, h.params_ok, Block.inv_reset _, by simp [Phase.claimHeld], by simp⟩
  | hostWrite n v => exact hostWrite_inv n v h
  | hostRead n => exact ⟨_, rfl, h.params_ok, h.block_ok, h.pad_agrees⟩
  | tick d f => exact tick_inv d f h

/-- Every step keeps the invariant, whatever its event. -/
theorem step_inv {t : State} (h : s.Inv) (hstep : step s = .next t) : t.Inv := by
  unfold step at hstep
  cases hagenda : s.agenda with
  | nil =>
    rw [hagenda] at hstep
    have hdrawn : State.Inv { s with draws := s.draws + 1 } := ⟨h.params_ok, h.block_ok, h.pad_agrees⟩
    obtain ⟨u, hu, hinv⟩ := perform_inv (Config.freeTransition s.draws) hdrawn
    cases hu.symm.trans hstep
    exact hinv
  | cons e rest =>
    rw [hagenda] at hstep
    have htaken : State.Inv { s with agenda := rest } := ⟨h.params_ok, h.block_ok, h.pad_agrees⟩
    cases e with
    | does r =>
      obtain ⟨u, hu, hinv⟩ := perform_inv r htaken
      cases hu.symm.trans hstep
      exact hinv
    | undefinedBusCycle => cases hstep

/-- The invariant holds as `Reset()` leaves the block, and every step keeps it. -/
theorem Reachable.inv (h : Reachable s) : s.Inv := by
  induction h with
  | afterReset s hp hb =>
    exact ⟨hp, hb ▸ Block.inv_reset s.params, by simp [hb, Phase.claimHeld], by simp [hb]⟩
  | afterStep s t _ hs ih => exact step_inv ih hs

/-- Settles O55: the items of R36 are part of the invariant that every step keeps. -/
theorem reachableStatesMeetTheListedInvariants : Obligations.ReachableStatesMeetTheListedInvariants := by
  unfold Obligations.ReachableStatesMeetTheListedInvariants
  exact fun s h => h.inv.block_ok.toMeetsR36

end

/-! ### The phase graph -/

section
variable {s t : State}

/-- Counting a sample keeps `PHASE` or raises `TIMEOUT` (R154). -/
theorem countSample_phase (h : countSample s = .next t) :
    t.blk.phase = s.blk.phase ∨ t.blk.phase = .idle ∧ t.blk.err = .timeout ∧ t.blk.done = true := by
  by_cases hidx : s.blk.idx.toNat ≤ 81
  · cases (countSample_eq s hidx).symm.trans h
    by_cases hceil : (s.blk.countAt s.blk.idx.toNat).toNat = 35999
    · exact .inr (by simp [hceil])
    · exact .inl (by simp [hceil])
  · cases (countSample_beyond s (not_le.mp hidx)).symm.trans h

/-- Opening the next count goes to the phase named (R152, R153). -/
theorem openNextCount_phase {q : Phase} (h : openNextCount q s = .next t) : t.blk.phase = q := by
  by_cases hidx : s.blk.idx.toNat + 1 ≤ 81
  · cases (openNextCount_eq q s hidx).symm.trans h
    rfl
  · cases (openNextCount_beyond q s (not_le.mp hidx)).symm.trans h

/-- A tick goes to a successor of its phase, or ends the transaction with the error its phase raises (R38). -/
theorem tick_phase {d f : Bool} (h : tick d f s = .next t) :
    t.blk.phase ∈ s.blk.phase.successors ∨
      ∃ e, s.blk.phase.raises = some e ∧ t.blk.phase = .idle ∧ t.blk.err = e ∧ t.blk.done = true := by
  cases hp : s.blk.phase with
  | idle =>
    cases (tick_idle d f hp).symm.trans h
    exact .inl (by simp [hp, Phase.successors])
  | lineReset =>
    cases (tick_lineReset d f hp).symm.trans h
    exact .inl (by simp [Phase.successors])
  | claimOut =>
    cases f
    · cases (tick_claimOut_granted d hp).symm.trans h
      exact .inl (by simp [Phase.successors])
    · cases (tick_claimOut_refused d hp).symm.trans h
      exact .inr ⟨.gpioClaimFail, rfl, rfl, rfl, rfl⟩
  | wakeHigh =>
    cases (tick_wakeHigh d f hp).symm.trans h
    left
    by_cases hend : s.blk.wcnt.toNat + 1 = s.params.nWakeHigh <;> simp [hend, hp, Phase.successors]
  | wakeLow =>
    cases (tick_wakeLow d f hp).symm.trans h
    left
    by_cases hend : s.blk.wcnt.toNat + 1 = s.params.nWakeLow <;> simp [hend, hp, Phase.successors]
  | releaseOut =>
    cases (tick_releaseOut d f hp).symm.trans h
    exact .inl (by simp [Phase.successors])
  | claimIn =>
    cases f
    · cases (tick_claimIn_granted d hp).symm.trans h
      exact .inl (by simp [Phase.successors])
    · cases (tick_claimIn_refused d hp).symm.trans h
      exact .inr ⟨.gpioClaimFail, rfl, rfl, rfl, rfl⟩
  | settle =>
    cases (tick_settle d f hp).symm.trans h
    left
    by_cases hend : s.blk.wcnt.toNat + 1 = s.params.nSettle <;> simp [hend, hp, Phase.successors]
  | ackWait =>
    cases d
    · cases (tick_ackWait_low f hp).symm.trans h
      exact .inl (by simp [Phase.successors])
    · cases (tick_ackWait_high f hp).symm.trans h
      by_cases hceil : s.blk.icnt.toNat = 35999
      · exact .inr ⟨.timeout, rfl, by simp [hceil]⟩
      · exact .inl (by simp [hceil, hp, Phase.successors])
  | sampleLow =>
    cases d
    · rcases countSample_phase ((tick_sampleLow_low f hp).symm.trans h) with hsame | hraised
      · exact .inl (by simp [hsame, hp, Phase.successors])
      · exact .inr ⟨.timeout, rfl, hraised⟩
    · have hnext := openNextCount_phase ((tick_sampleLow_high f hp).symm.trans h)
      exact .inl (by simp [hnext, Phase.successors])
  | sampleHigh =>
    cases d
    · by_cases hlast : s.blk.idx = 81#7
      · cases (tick_sampleHigh_low_last f hp hlast).symm.trans h
        exact .inl (by simp [Phase.successors])
      · have hnext := openNextCount_phase ((tick_sampleHigh_low f hp hlast).symm.trans h)
        exact .inl (by simp [hnext, Phase.successors])
    · rcases countSample_phase ((tick_sampleHigh_high f hp).symm.trans h) with hsame | hraised
      · exact .inl (by simp [hsame, hp, Phase.successors])
      · exact .inr ⟨.timeout, rfl, hraised⟩
  | threshold =>
    cases (tick_threshold d f hp).symm.trans h
    exact .inl (by simp [Phase.successors])
  | reconstruct =>
    cases (tick_reconstruct d f hp).symm.trans h
    exact .inl (by simp [Phase.successors])
  | validate =>
    cases (tick_validate d f hp).symm.trans h
    by_cases hsum : s.blk.checksumMatches
    · exact .inl (by simp [hsum, Phase.successors])
    · exact .inr ⟨.checksumFail, rfl, by simp [hsum]⟩
  | convert =>
    cases (tick_convert d f hp).symm.trans h
    exact .inl (by simp [Phase.successors])
  | finish =>
    cases (tick_finish d f hp).symm.trans h
    exact .inl (by simp [Phase.successors])

/-- The host moves `PHASE` only by an accepted `READ`, from `IDLE` to `LINE_RESET` (R38, R110). -/
theorem hostWrite_phase {n : Nat} {v : Word} (hinv : s.Inv) (h : perform (.hostWrite n v) s = .next t) :
    t.blk.phase = s.blk.phase ∨ n = 0 ∧ v = 1#32 ∧ s.blk.phase = .idle ∧ t.blk.phase = .lineReset := by
  by_cases hread : n = 0 ∧ v = 1#32
  · obtain ⟨rfl, rfl⟩ := hread
    cases hbusy : s.blk.busy with
    | false =>
      cases (hostWrite_read_idle hbusy).symm.trans h
      have hidle : s.blk.phase = .idle :=
        not_not.mp fun hp => Bool.eq_false_iff.mp hbusy (hinv.block_ok.busy_iff_active.mpr hp)
      exact .inr ⟨rfl, rfl, hidle, rfl⟩
    | true =>
      cases (hostWrite_read_busy hbusy).symm.trans h
      exact .inl rfl
  · cases (hostWrite_other hread).symm.trans h
    exact .inl rfl

/-- Settles O49: the tick phase by phase, the host write by what it decodes to, the host read by definition. -/
theorem phaseFollowsTheGraph : Obligations.PhaseFollowsTheGraph := by
  unfold Obligations.PhaseFollowsTheGraph
  refine ⟨fun s t d f h => tick_phase h, fun s t n v hinv h => hostWrite_phase hinv h, fun s t n h => ?_⟩
  cases h
  rfl

end

end Sys2Proof.Machine
end

section
/-! PROOFS. The register space at its edges (20_memory.md R61): reserved and read-only register numbers,
and what no access of the host can do. -/

namespace Sys2Proof.Machine

section
variable {s : State}

/-- `CMD` reads 0 (R61). -/
@[simp] theorem Block.readReg_cmd (b : Block) : b.readReg 0 = 0 := rfl

/-- Register numbers 4 and above read 0 (R61). -/
theorem Block.readReg_reserved (b : Block) {n : Nat} (h : 4 ≤ n) : b.readReg n = 0 := by
  match n, h with
  | _ + 4, _ => rfl

/-- Every host read answers, and only the host port's data changes (R113, R61). -/
theorem perform_hostRead (n : Nat) (s : State) :
    perform (.hostRead n) s = .next { s with hostData := s.blk.readReg n } := rfl

/-- Only register 0 can be written (R61). -/
theorem hostWrite_of_ne_cmd {n : Nat} (v : Word) (h : n ≠ 0) : perform (.hostWrite n v) s = .next s :=
  hostWrite_other fun hread => h hread.1

/-- Every host write answers, and it raises no error: only an accepted `READ` writes `ERR`, with `OK`
(R61, R110). -/
theorem hostWrite_err (n : Nat) (v : Word) (s : State) :
    ∃ t, perform (.hostWrite n v) s = .next t ∧ (t.blk.err = s.blk.err ∨ t.blk.err = .ok) := by
  by_cases hread : n = 0 ∧ v = 1#32
  · obtain ⟨rfl, rfl⟩ := hread
    cases hbusy : s.blk.busy with
    | false => exact ⟨_, hostWrite_read_idle hbusy, .inr (Block.startTransaction_err s.blk)⟩
    | true => exact ⟨s, hostWrite_read_busy hbusy, .inl rfl⟩
  · exact ⟨s, hostWrite_other hread, .inl rfl⟩

end

/-- Settles O9: a read is `readReg`, which is 0 at the edges; a write acts only as `READ` to register 0. -/
theorem registerSpaceEdges : Obligations.RegisterSpaceEdges := by
  unfold Obligations.RegisterSpaceEdges
  refine fun s n v => ⟨fun hreserved => ⟨?_, ?_⟩, fun hreadOnly => ?_, ?_, ?_, ?_⟩
  · rw [perform_hostRead, Block.readReg_reserved s.blk hreserved]
  · exact hostWrite_of_ne_cmd v (by omega)
  · exact hostWrite_of_ne_cmd v (by omega)
  · rw [perform_hostRead, Block.readReg_cmd]
  · exact ⟨_, perform_hostRead n s, rfl⟩
  · exact hostWrite_err n v s

end Sys2Proof.Machine
end

section
/-! PROOFS. The encoding of commands at the host port (30_encoding.md R91): what a reserved `CMD32` word
does. -/

namespace Sys2Proof.Machine

/-- Settles O8: `READ` is the only write that acts, and its word is 1. -/
theorem reservedCommandsChangeNothing : Obligations.ReservedCommandsChangeNothing := by
  unfold Obligations.ReservedCommandsChangeNothing
  intro s v hreserved
  have hnotRead : ¬ ((0 : Nat) = 0 ∧ v = 1#32) := fun hread => hreserved hread.2
  exact hostWrite_other hnotRead

end Sys2Proof.Machine
end

section
/-! PROOFS. The host commands (40_host_commands.md): `READ` accepted and dropped (R110, R111), what a host
read returns (R113) and `IDLE` (R114). -/

namespace Sys2Proof.Machine

section
variable {s : State} {b : Block}

/-! ### `READ` and `IDLE` -/

/-- The accepted `READ` (R110). -/
theorem exec_read_idle (h : s.blk.busy = false) : exec .read s = .next (s.onBlock Block.startTransaction) :=
  if_neg (Bool.eq_false_iff.mp h)

/-- The dropped `READ` (R111). -/
theorem exec_read_busy (h : s.blk.busy = true) : exec .read s = .next s := if_pos h

theorem exec_idle (s : State) : exec .idle s = .next s := rfl

/-! ### The registers in numbers -/

/-- Bit fields side by side: the upper one counts multiples of `2 ^ n`, `n` the width of the lower one. -/
theorem toNat_append_eq_add {m n : Nat} (x : BitVec m) (y : BitVec n) :
    (x ++ y).toNat = 2 ^ n * x.toNat + y.toNat := by
  rw [BitVec.toNat_append, ← Nat.shiftLeft_add_eq_or_of_lt y.isLt, Nat.shiftLeft_eq, Nat.mul_comm]

/-- `STATUS` is `{ERR, DONE, BUSY}` (R25). -/
theorem Block.readReg_status (b : Block) :
    b.readReg 1 = BitVec.ofNat 32 (4 * b.err.code.toNat + 2 * b.done.toNat + b.busy.toNat) := by
  have hfields : (b.err.code ++ BitVec.ofBool b.done ++ BitVec.ofBool b.busy).toNat =
      4 * b.err.code.toNat + 2 * b.done.toNat + b.busy.toNat := by
    rw [toNat_append_eq_add, toNat_append_eq_add, BitVec.toNat_ofBool, BitVec.toNat_ofBool]
    omega
  rw [← hfields, BitVec.ofNat_toNat]
  rfl

/-- `HUM` is `HUM_X10` with zeros above (R26). -/
theorem Block.readReg_hum (b : Block) : b.readReg 2 = BitVec.ofNat 32 b.humX10.toNat :=
  (BitVec.ofNat_toNat 32 b.humX10).symm

/-- `TEMP` is `{TEMP_NEG, TEMP_MAG, TEMP_X10}` (R27). -/
theorem Block.readReg_temp (b : Block) :
    b.readReg 3 =
      BitVec.ofNat 32 (2 ^ 31 * b.tempNeg.toNat + 2 ^ 16 * b.tempMag.toNat + b.tempX10.toNat) := by
  have hfields : (b.readReg 3).toNat =
      2 ^ 31 * b.tempNeg.toNat + 2 ^ 16 * b.tempMag.toNat + b.tempX10.toNat := by
    refine (toNat_append_eq_add (BitVec.ofBool b.tempNeg ++ b.tempMag) b.tempX10).trans ?_
    rw [toNat_append_eq_add, BitVec.toNat_ofBool]
    omega
  rw [← hfields, BitVec.ofNat_toNat, BitVec.setWidth_eq]

/-- No result shows before the `CONVERT` tick has ended, nor after a failure (R113, R36 e). -/
theorem Block.Inv.results_read_zero {p : Params} (h : b.Inv p)
    (hnone : b.busy = true ∧ b.phase ≠ .finish ∨ b.err ≠ .ok) : b.readReg 2 = 0 ∧ b.readReg 3 = 0 := by
  rcases hnone with ⟨hbusy, hfinish⟩ | herr
  · obtain ⟨hhum, htemp, hmag, hneg⟩ := h.results_clear (h.busy_iff_active.mp hbusy) hfinish
    rw [Block.readReg_hum, Block.readReg_temp, hhum, htemp, hmag, hneg]
    exact ⟨rfl, rfl⟩
  · exact h.error_means_zero herr

end

/-! ### The statements -/

/-- Settles O10: a read is `readReg`, given in numbers register by register and 0 by the invariant. -/
theorem hostReadReturnsTheRegister : Obligations.HostReadReturnsTheRegister := by
  unfold Obligations.HostReadReturnsTheRegister
  refine ⟨fun s => ⟨?_, ?_, ?_, ?_⟩, fun s hinv hnone => ?_⟩
  · rw [perform_hostRead, Block.readReg_cmd]
  · rw [perform_hostRead, Block.readReg_status]
  · rw [perform_hostRead, Block.readReg_hum]
  · rw [perform_hostRead, Block.readReg_temp]
  · obtain ⟨hhum, htemp⟩ := hinv.block_ok.results_read_zero hnone
    rw [perform_hostRead, perform_hostRead, hhum, htemp]
    exact ⟨rfl, rfl⟩

/-- Settles O6: with `BUSY` = 0 the operation and the host write both start a transaction. -/
theorem readAcceptedClearsAndStarts : Obligations.ReadAcceptedClearsAndStarts := by
  unfold Obligations.ReadAcceptedClearsAndStarts
  exact fun s hbusy => ⟨exec_read_idle hbusy, hostWrite_read_idle hbusy⟩

/-- Settles O7: with `BUSY` = 1 the operation and the host write are both dropped. -/
theorem readWhileBusyIsDropped : Obligations.ReadWhileBusyIsDropped := by
  unfold Obligations.ReadWhileBusyIsDropped
  exact fun s hbusy => ⟨exec_read_busy hbusy, hostWrite_read_busy hbusy⟩

/-- Settles O13: a tick in `IDLE` presents `PAD_NONE` and only puts its inputs on the pins. -/
theorem idleTickChangesNothing : Obligations.IdleTickChangesNothing := by
  unfold Obligations.IdleTickChangesNothing
  refine fun s => ⟨exec_idle s, fun hidle => ⟨?_, fun din padFail => tick_idle din padFail hidle⟩⟩
  rw [State.padCmd, hidle]
  rfl

end Sys2Proof.Machine
end

section
/-! PROOFS. Line control (41_line_control.md R130 to R136) and the pad commands `PAD_NONE` and `PAD_RELEASE` (R137,
R138). The fixed waits `WAKE_HIGH`, `WAKE_LOW` and `SETTLE` (R31) share one induction over their ticks. -/

namespace Sys2Proof.Machine

/-! ### The operations -/

section
variable (s : State)

theorem exec_lineReset :
    exec .lineReset s = .next (s.onBlock fun b => { b with claim := .none, phase := .claimOut }) := rfl

theorem exec_releaseOut :
    exec .releaseOut s = .next (s.onBlock fun b => { b with claim := .none, phase := .claimIn }) := rfl

theorem exec_padNone : exec .padNone s = .next s := rfl

theorem exec_padRelease : exec .padRelease s = .next { s with padClaim := .none } := rfl

/-- A fixed wait as the rules put it (R31): the two outcomes of one tick. -/
theorem timedWait_eq_ite (n : Nat) (onEnd : Block → Block) :
    timedWait n onEnd s =
      if s.blk.wcnt.toNat + 1 = n then .next (s.onBlock fun b => onEnd { b with wcnt := 0 })
      else .next (s.onBlock fun b => { b with wcnt := b.wcnt + 1 }) := by
  rw [timedWait_eq]
  split <;> rfl

theorem exec_wakeHigh :
    exec .wakeHigh s = timedWait s.params.nWakeHigh (fun b => { b with level := false, phase := .wakeLow }) s := rfl

theorem exec_wakeLow :
    exec .wakeLow s = timedWait s.params.nWakeLow (fun b => { b with phase := .releaseOut }) s := rfl

theorem exec_settle :
    exec .settle s = timedWait s.params.nSettle (fun b => { b with phase := .ackWait }) s := rfl

variable {s}

theorem exec_claimOut_refused (h : s.padFail = true) :
    exec .claimOut s = .next (s.onBlock (Block.abort .gpioClaimFail)) := if_pos h

theorem exec_claimOut_granted (h : s.padFail = false) :
    exec .claimOut s = .next (s.onBlock fun b => { b with claim := .out, wcnt := 0, phase := .wakeHigh }) :=
  if_neg (Bool.eq_false_iff.mp h)

theorem exec_claimIn_refused (h : s.padFail = true) :
    exec .claimIn s = .next (s.onBlock (Block.abort .gpioClaimFail)) := if_pos h

theorem exec_claimIn_granted (h : s.padFail = false) :
    exec .claimIn s = .next (s.onBlock fun b => { b with claim := .inp, wcnt := 0, phase := .settle }) :=
  if_neg (Bool.eq_false_iff.mp h)

end

/-! ### What the pad drives -/

section
variable {s : State}

theorem State.lineDrive_eq (s : State) : s.lineDrive = if s.padClaim = .out then some s.blk.level else none := by
  unfold State.lineDrive
  cases s.padClaim <;> rfl

theorem State.lineDrive_of_padClaim_none (h : s.padClaim = .none) : s.lineDrive = none := by
  simp [State.lineDrive_eq, h]

/-- From the granted output claim to its release the pad drives the line at `LEVEL` (R137, R36 j). -/
theorem State.Inv.lineDrive_of_claimHeld_out (h : s.Inv) (hheld : s.blk.phase.claimHeld = some .out) :
    s.lineDrive = some s.blk.level := by
  rw [State.lineDrive_eq, if_pos (h.pad_agrees.1 .out hheld)]

end

/-! ### Fixed waits over their ticks -/

/-- The block after `k` ticks of a fixed wait of `n` ticks (R31): the wait has ended, or `WCNT` has counted them. -/
def Block.afterWaiting (n : Nat) (onEnd : Block → Block) (k : Nat) (b : Block) : Block :=
  if b.wcnt.toNat + k = n then onEnd { b with wcnt := 0 } else { b with wcnt := b.wcnt + BitVec.ofNat 32 k }

section
variable {n k : Nat} {onEnd : Block → Block} {b : Block}

theorem Block.afterWaiting_last (h : b.wcnt.toNat + k = n) : b.afterWaiting n onEnd k = onEnd { b with wcnt := 0 } :=
  if_pos h

theorem Block.afterWaiting_more (h : b.wcnt.toNat + k ≠ n) :
    b.afterWaiting n onEnd k = { b with wcnt := b.wcnt + BitVec.ofNat 32 k } :=
  if_neg h

theorem Block.afterWaiting_zero (h : b.wcnt.toNat < n) : b.afterWaiting n onEnd 0 = b := by
  rw [Block.afterWaiting_more h.ne, BitVec.add_zero]

/-- A tick that does not end the wait leaves the rest of it to the ticks after it. -/
theorem Block.afterWaiting_succ (h : b.wcnt.toNat + 1 < 2 ^ 32) :
    Block.afterWaiting n onEnd k { b with wcnt := b.wcnt + 1 } = b.afterWaiting n onEnd (k + 1) := by
  have hcount : (b.wcnt + 1).toNat + k = b.wcnt.toNat + (k + 1) := by bv_omega
  have hsum : b.wcnt + 1 + BitVec.ofNat 32 k = b.wcnt + BitVec.ofNat 32 (k + 1) := by
    rw [Nat.add_comm k 1, BitVec.ofNat_add, ← BitVec.add_assoc]
    rfl
  simp only [Block.afterWaiting, hcount, hsum]

/-- A wait is entered with `WCNT` = 0. -/
theorem Block.afterWaiting_entered (h : b.wcnt = 0) :
    b.afterWaiting n onEnd k = if k = n then onEnd b else { b with wcnt := BitVec.ofNat 32 k } := by
  obtain ⟨⟩ := b
  cases h
  simp [Block.afterWaiting]

end

/-- Every tick of phase `q` is one tick of its fixed wait, and the last one does `onEnd`. -/
def Phase.WaitsThen (q : Phase) (onEnd : Block → Block) : Prop :=
  ∀ (s : State) (d f : Bool), s.blk.phase = q →
    tick d f s = .next ((s.withPins d f).onBlock (Block.afterWaiting (q.waitLength s.params) onEnd 1))

theorem wakeHigh_waitsThen : Phase.wakeHigh.WaitsThen fun b => { b with level := false, phase := .wakeLow } :=
  fun _ d f => tick_wakeHigh d f

theorem wakeLow_waitsThen : Phase.wakeLow.WaitsThen fun b => { b with phase := .releaseOut } :=
  fun _ d f => tick_wakeLow d f

theorem settle_waitsThen : Phase.settle.WaitsThen fun b => { b with phase := .ackWait } :=
  fun _ d f => tick_settle d f

/-- Every fixed wait fits `WCNT` (R5, R31). -/
theorem Phase.waitLength_lt {p : Params} (h : p.wellFormed = true) (q : Phase) : q.waitLength p < 2 ^ 32 := by
  simp only [Params.wellFormed, Bool.and_eq_true, decide_eq_true_eq] at h
  obtain ⟨⟨-, hms⟩, -, hsettle⟩ := h
  cases q <;> simp [Phase.waitLength, Params.nWakeHigh, Params.nWakeLow, Config.wakeHighMs, Config.wakeLowMs] <;> omega

section
variable {q : Phase} {onEnd : Block → Block} (hq : q.WaitsThen onEnd) {s : State} (ins : List (Bool × Bool))
include hq

/-- The ticks of a wait up to its end, from any `WCNT` below its length, write the pins and what the wait
writes, and nothing else. -/
theorem Phase.WaitsThen.ticks_eq (hparams : s.params.wellFormed = true) (hphase : s.blk.phase = q)
    (hbelow : s.blk.wcnt.toNat < q.waitLength s.params)
    (hlen : s.blk.wcnt.toNat + ins.length ≤ q.waitLength s.params) :
    ∃ d f, ticks ins s =
      .next ((s.withPins d f).onBlock (Block.afterWaiting (q.waitLength s.params) onEnd ins.length)) := by
  induction ins generalizing s with
  | nil =>
    refine ⟨s.din, s.padFail, ?_⟩
    simp only [ticks, State.onBlock, State.withPins, List.length_nil, Block.afterWaiting_zero hbelow]
  | cons i rest ih =>
    obtain ⟨d, f⟩ := i
    rw [List.length_cons] at hlen ⊢
    rw [ticks, hq s d f hphase, andThen_next]
    by_cases hlast : s.blk.wcnt.toNat + 1 = q.waitLength s.params
    · obtain rfl : rest = [] := List.eq_nil_of_length_eq_zero (by omega)
      exact ⟨d, f, rfl⟩
    · have hfits : s.blk.wcnt.toNat + 1 < 2 ^ 32 := lt_of_le_of_lt hbelow (Phase.waitLength_lt hparams q)
      have hcount : (s.blk.wcnt + 1).toNat = s.blk.wcnt.toNat + 1 := by bv_omega
      have hbelow' : (s.blk.wcnt + 1).toNat < q.waitLength s.params := by omega
      have hlen' : (s.blk.wcnt + 1).toNat + rest.length ≤ q.waitLength s.params := by omega
      obtain ⟨d', f', hrest⟩ := ih (s := (s.withPins d f).onBlock fun b => { b with wcnt := b.wcnt + 1 })
        hparams hphase hbelow' hlen'
      refine ⟨d', f', ?_⟩
      simp only [State.onBlock, State.withPins, Block.afterWaiting_succ hfits] at hrest ⊢
      rw [Block.afterWaiting_more hlast]
      exact hrest

/-- A wait entered with `WCNT` = 0 lasts exactly its length (R31). -/
theorem Phase.WaitsThen.lasts (hparams : s.params.wellFormed = true) (hphase : s.blk.phase = q)
    (hentered : s.blk.wcnt = 0) (hlen : ins.length ≤ q.waitLength s.params) :
    ∃ t, ticks ins s = .next t ∧
      t.blk = if ins.length = q.waitLength s.params then onEnd s.blk
        else { s.blk with wcnt := BitVec.ofNat 32 ins.length } := by
  have hzero : s.blk.wcnt.toNat = 0 := by rw [hentered]; rfl
  obtain ⟨d, f, hticks⟩ := hq.ticks_eq ins hparams hphase
    (hzero.trans_lt (Phase.waitLength_pos hparams q)) (by omega)
  exact ⟨_, hticks, Block.afterWaiting_entered hentered⟩

end

/-! ### `LEVEL` -/

section
variable {s t : State}

theorem countSample_level (h : countSample s = .next t) : t.blk.level = s.blk.level := by
  by_cases hidx : s.blk.idx.toNat ≤ 81
  · cases (countSample_eq s hidx).symm.trans h
    dsimp only [State.onBlock_blk]
    split <;> rfl
  · cases (countSample_beyond s (not_le.mp hidx)).symm.trans h

theorem openNextCount_level {q : Phase} (h : openNextCount q s = .next t) : t.blk.level = s.blk.level := by
  by_cases hidx : s.blk.idx.toNat + 1 ≤ 81
  · cases (openNextCount_eq q s hidx).symm.trans h
    rfl
  · cases (openNextCount_beyond q s (not_le.mp hidx)).symm.trans h

/-- No tick sets `LEVEL`; only the end of `WAKE_HIGH` writes it (R132, R133). -/
theorem tick_level {d f : Bool} (h : tick d f s = .next t) (hset : t.blk.level = true) : s.blk.level = true := by
  cases hp : s.blk.phase with
  | idle => cases (tick_idle d f hp).symm.trans h; exact hset
  | lineReset => cases (tick_lineReset d f hp).symm.trans h; exact hset
  | claimOut =>
    cases f
    · cases (tick_claimOut_granted d hp).symm.trans h; exact hset
    · cases (tick_claimOut_refused d hp).symm.trans h; exact hset
  | wakeHigh =>
    cases (tick_wakeHigh d f hp).symm.trans h
    dsimp only [State.onBlock_blk] at hset
    split at hset
    · cases hset
    · exact hset
  | wakeLow =>
    cases (tick_wakeLow d f hp).symm.trans h
    dsimp only [State.onBlock_blk] at hset
    split at hset <;> exact hset
  | releaseOut => cases (tick_releaseOut d f hp).symm.trans h; exact hset
  | claimIn =>
    cases f
    · cases (tick_claimIn_granted d hp).symm.trans h; exact hset
    · cases (tick_claimIn_refused d hp).symm.trans h; exact hset
  | settle =>
    cases (tick_settle d f hp).symm.trans h
    dsimp only [State.onBlock_blk] at hset
    split at hset <;> exact hset
  | ackWait =>
    cases d
    · cases (tick_ackWait_low f hp).symm.trans h; exact hset
    · cases (tick_ackWait_high f hp).symm.trans h
      dsimp only [State.onBlock_blk] at hset
      split at hset <;> exact hset
  | sampleLow =>
    cases d
    · exact (countSample_level ((tick_sampleLow_low f hp).symm.trans h)).symm.trans hset
    · exact (openNextCount_level ((tick_sampleLow_high f hp).symm.trans h)).symm.trans hset
  | sampleHigh =>
    cases d
    · by_cases hlast : s.blk.idx = 81#7
      · cases (tick_sampleHigh_low_last f hp hlast).symm.trans h; exact hset
      · exact (openNextCount_level ((tick_sampleHigh_low f hp hlast).symm.trans h)).symm.trans hset
    · exact (countSample_level ((tick_sampleHigh_high f hp).symm.trans h)).symm.trans hset
  | threshold => cases (tick_threshold d f hp).symm.trans h; exact hset
  | reconstruct => cases (tick_reconstruct d f hp).symm.trans h; exact hset
  | validate =>
    cases (tick_validate d f hp).symm.trans h
    dsimp only [State.onBlock_blk] at hset
    split at hset <;> exact hset
  | convert => cases (tick_convert d f hp).symm.trans h; exact hset
  | finish => cases (tick_finish d f hp).symm.trans h; exact hset

/-- The only transition that sets `LEVEL` is an accepted `READ` (R110, R133). -/
theorem perform_level {r : Transition} (hclear : s.blk.level = false) (h : perform r s = .next t)
    (hset : t.blk.level = true) : r = .hostWrite 0 0x00000001#32 ∧ s.blk.busy = false := by
  have hkept : ¬ s.blk.level = true := Bool.eq_false_iff.mp hclear
  cases r with
  | reset =>
    cases h
    cases hset
  | hostWrite n v =>
    by_cases hread : n = 0 ∧ v = 1#32
    · obtain ⟨rfl, rfl⟩ := hread
      cases hbusy : s.blk.busy with
      | false => exact ⟨rfl, rfl⟩
      | true =>
        cases (hostWrite_read_busy hbusy).symm.trans h
        exact absurd hset hkept
    · cases (hostWrite_other hread).symm.trans h
      exact absurd hset hkept
  | hostRead n =>
    cases (perform_hostRead n s).symm.trans h
    exact absurd hset hkept
  | tick d f => exact absurd (tick_level h hset) hkept

end

/-! ### The statements -/

/-- Settles O16: the wait's equation, its induction over ticks, and the claim the pad holds under the invariant. -/
theorem wakeHighLastsItsTicks : Obligations.WakeHighLastsItsTicks := by
  unfold Obligations.WakeHighLastsItsTicks
  refine ⟨rfl, rfl, fun s => (exec_wakeHigh s).trans (timedWait_eq_ite s _ _),
    fun s ins => wakeHigh_waitsThen.lasts ins, fun s hinv hphase => ⟨?_, ?_⟩⟩
  · rw [hinv.lineDrive_of_claimHeld_out (by rw [hphase]; rfl),
      hinv.block_ok.level_while_waking (.inr (.inr hphase))]
  · have hbelow := hinv.block_ok.wait_below_length
    rw [hphase] at hbelow
    exact hbelow

/-- Settles O17: as O16, and `perform_level` for the transition that sets `LEVEL` again. -/
theorem wakeLowLastsItsTicks : Obligations.WakeLowLastsItsTicks := by
  unfold Obligations.WakeLowLastsItsTicks
  refine ⟨rfl, rfl, fun s => (exec_wakeLow s).trans (timedWait_eq_ite s _ _),
    fun s ins => wakeLow_waitsThen.lasts ins, fun s hinv hphase => ?_, fun s t r => perform_level⟩
  rw [hinv.lineDrive_of_claimHeld_out (by rw [hphase]; rfl),
    hinv.block_ok.level_after_waking (by rw [hphase])]

/-- Settles O20: as O16; `ICNT` is still 0 by the invariant. -/
theorem settleLastsItsTicks : Obligations.SettleLastsItsTicks := by
  unfold Obligations.SettleLastsItsTicks
  refine ⟨rfl, rfl, fun s => (exec_settle s).trans (timedWait_eq_ite s _ _),
    fun s ins => settle_waitsThen.lasts ins, fun s hinv hphase => ?_⟩
  exact hinv.block_ok.initial_count_clear (by simp [hphase]) (by rw [hphase])

/-- Settles O14: the operation does not read `CLAIM`, it only writes it. -/
theorem lineResetReleasesAnyClaim : Obligations.LineResetReleasesAnyClaim := by
  unfold Obligations.LineResetReleasesAnyClaim
  exact ⟨rfl, rfl, exec_lineReset⟩

/-- Settles O15: the pad's two answers; `CLAIM` and `LEVEL` by items (j) and (k) of R36. -/
theorem claimOutTakesTheLineOrAborts : Obligations.ClaimOutTakesTheLineOrAborts := by
  unfold Obligations.ClaimOutTakesTheLineOrAborts
  refine ⟨rfl, rfl, fun s => exec_claimOut_refused, fun s => exec_claimOut_granted,
    fun s hinv hphase => ⟨?_, ?_⟩⟩
  · exact hinv.block_ok.claim_in_phase .none (by rw [hphase]; rfl)
  · exact hinv.block_ok.level_while_waking (.inr (.inl hphase))

/-- Settles O18: the output claim stands and `LEVEL` is 0 until the tick has ended. -/
theorem releaseOutDropsTheOutputClaim : Obligations.ReleaseOutDropsTheOutputClaim := by
  unfold Obligations.ReleaseOutDropsTheOutputClaim
  refine ⟨rfl, rfl, exec_releaseOut, fun s hinv hphase => ?_⟩
  rw [hinv.lineDrive_of_claimHeld_out (by rw [hphase]; rfl),
    hinv.block_ok.level_after_waking (by rw [hphase]; decide)]

/-- Settles O19: the pad's two answers; neither the block nor the pad has a claim before them. -/
theorem claimInTakesTheLineOrAborts : Obligations.ClaimInTakesTheLineOrAborts := by
  unfold Obligations.ClaimInTakesTheLineOrAborts
  refine ⟨rfl, rfl, fun s => exec_claimIn_refused, fun s => exec_claimIn_granted, fun s hinv hphase => ?_⟩
  have hheld : s.blk.phase.claimHeld = some .none := by rw [hphase]; rfl
  exact ⟨hinv.block_ok.claim_in_phase .none hheld,
    State.lineDrive_of_padClaim_none (hinv.pad_agrees.1 .none hheld)⟩

/-- Settles O21: the command is no operation, and the drive is read off the pad's claim. -/
theorem padNoneKeepsTheClaim : Obligations.PadNoneKeepsTheClaim := by
  unfold Obligations.PadNoneKeepsTheClaim
  exact fun s => ⟨exec_padNone s, State.lineDrive_eq s⟩

/-- Settles O22: the released pad drives nothing, and releasing it again writes what it holds. -/
theorem padReleaseDropsTheClaim : Obligations.PadReleaseDropsTheClaim := by
  unfold Obligations.PadReleaseDropsTheClaim
  exact fun s => ⟨_, exec_padRelease s, rfl, State.lineDrive_of_padClaim_none rfl, exec_padRelease _⟩

end Sys2Proof.Machine
end

section
/-! PROOFS. Pulse sampling in one tick (42_pulse_sampling.md R151, R154, R155). -/

namespace Sys2Proof.Machine

/-! ### Entries of the buffer -/

/-- Writing an entry that the buffer has (R62). -/
theorem Block.setCount_eq_set (b : Block) {i : Nat} (h : i < 82) (v : Count) :
    b.setCount i v = { b with pulse := b.pulse.set i v h } := by
  have hpulse : b.pulse.setIfInBounds i v = b.pulse.set i v h :=
    pulse_ext fun j hj => by rw [Vector.getElem_setIfInBounds, Vector.getElem_set]
  rw [Block.setCount, hpulse]

/-- One more sample makes the counter the ceiling (R154). -/
theorem add_one_eq_ceiling {c : Count} (h : c.toNat = 35999) : c + 1 = 36000 := by bv_omega

/-! ### `ACK_WAIT` -/

section
variable {s : State}

/-- A high sample below the ceiling (R151). -/
theorem exec_ackWait_counts (hdin : s.din = true) (hbelow : s.blk.icnt.toNat + 1 ≠ 36000) :
    exec .ackWait s = .next (s.onBlock fun b => { b with icnt := b.icnt + 1 }) := by
  have hceil : reachesCeiling s.blk.icnt = false := beq_false_of_ne hbelow
  show execAckWait s = _
  simp [execAckWait, hdin, hceil]

/-- The high sample that makes `ICNT` the ceiling (R151, R154). -/
theorem exec_ackWait_ceiling (hdin : s.din = true) (hceiling : s.blk.icnt.toNat + 1 = 36000) :
    exec .ackWait s = .next (s.onBlock fun b => Block.abort .timeout { b with icnt := 36000 }) := by
  have hceil : reachesCeiling s.blk.icnt = true := beq_iff_eq.mpr hceiling
  show execAckWait s = _
  rw [← add_one_eq_ceiling (Nat.succ.inj hceiling)]
  simp [execAckWait, hdin, hceil, raise, State.onBlock]

/-- The first low sample (R151). -/
theorem exec_ackWait_low (hdin : s.din = false) :
    exec .ackWait s = .next (s.onBlock fun b => { b.setCount 0 1 with idx := 0, phase := .sampleLow }) := by
  show execAckWait s = _
  simp [execAckWait, hdin]

end

/-! ### What a tick does to the counters -/

section
variable {s t : State} {d f : Bool}

/-- Counting a sample adds one to the current entry and changes no other counter (R152, R153). -/
theorem countSample_counts (h : countSample s = .next t) :
    t.blk.icnt = s.blk.icnt ∧ t.blk.countAt s.blk.idx.toNat = s.blk.countAt s.blk.idx.toNat + 1 ∧
      ∀ i, i ≠ s.blk.idx.toNat → t.blk.countAt i = s.blk.countAt i := by
  by_cases hidx : s.blk.idx.toNat ≤ 81
  · cases (countSample_eq s hidx).symm.trans h
    have hsame := countAt_setCount_same s.blk (s.blk.countAt s.blk.idx.toNat + 1) (i := s.blk.idx.toNat) (by omega)
    have hother := fun i (hi : i ≠ s.blk.idx.toNat) =>
      countAt_setCount_other s.blk (s.blk.countAt s.blk.idx.toNat + 1) hi.symm
    dsimp only [State.onBlock_blk]
    split <;> exact ⟨rfl, hsame, hother⟩
  · cases (countSample_beyond s (not_le.mp hidx)).symm.trans h

/-- It raises `TIMEOUT` exactly where the entry becomes the ceiling (R154). -/
theorem countSample_err (herr : s.blk.err = .ok) (h : countSample s = .next t) :
    t.blk.err = .timeout ↔ (s.blk.countAt s.blk.idx.toNat).toNat = 35999 := by
  by_cases hidx : s.blk.idx.toNat ≤ 81
  · cases (countSample_eq s hidx).symm.trans h
    by_cases hceil : (s.blk.countAt s.blk.idx.toNat).toNat = 35999 <;> simp [hceil, herr]
  · cases (countSample_beyond s (not_le.mp hidx)).symm.trans h

theorem countSample_decoded (h : countSample s = .next t) :
    t.blk.frame = s.blk.frame ∧ t.blk.sum = s.blk.sum ∧ t.blk.thresh = s.blk.thresh := by
  by_cases hidx : s.blk.idx.toNat ≤ 81
  · cases (countSample_eq s hidx).symm.trans h
    dsimp only [State.onBlock_blk]
    split <;> exact ⟨rfl, rfl, rfl⟩
  · cases (countSample_beyond s (not_le.mp hidx)).symm.trans h

theorem openNextCount_err {q : Phase} (h : openNextCount q s = .next t) : t.blk.err = s.blk.err := by
  by_cases hidx : s.blk.idx.toNat + 1 ≤ 81
  · cases (openNextCount_eq q s hidx).symm.trans h
    rfl
  · cases (openNextCount_beyond q s (not_le.mp hidx)).symm.trans h

/-- Outside the sampling phases no tick counts a sample (R9). -/
theorem tick_counts_of_not_samples (hphase : ¬ s.blk.phase.samples) (h : tick d f s = .next t) :
    t.blk.pulse = s.blk.pulse ∧ t.blk.icnt = s.blk.icnt := by
  cases hp : s.blk.phase with
  | idle => cases (tick_idle d f hp).symm.trans h; exact ⟨rfl, rfl⟩
  | lineReset => cases (tick_lineReset d f hp).symm.trans h; exact ⟨rfl, rfl⟩
  | claimOut =>
    cases f
    · cases (tick_claimOut_granted d hp).symm.trans h; exact ⟨rfl, rfl⟩
    · cases (tick_claimOut_refused d hp).symm.trans h; exact ⟨rfl, rfl⟩
  | wakeHigh =>
    cases (tick_wakeHigh d f hp).symm.trans h
    dsimp only [State.onBlock_blk]
    split <;> exact ⟨rfl, rfl⟩
  | wakeLow =>
    cases (tick_wakeLow d f hp).symm.trans h
    dsimp only [State.onBlock_blk]
    split <;> exact ⟨rfl, rfl⟩
  | releaseOut => cases (tick_releaseOut d f hp).symm.trans h; exact ⟨rfl, rfl⟩
  | claimIn =>
    cases f
    · cases (tick_claimIn_granted d hp).symm.trans h; exact ⟨rfl, rfl⟩
    · cases (tick_claimIn_refused d hp).symm.trans h; exact ⟨rfl, rfl⟩
  | settle =>
    cases (tick_settle d f hp).symm.trans h
    dsimp only [State.onBlock_blk]
    split <;> exact ⟨rfl, rfl⟩
  | ackWait => exact absurd (.inl hp) hphase
  | sampleLow => exact absurd (.inr (.inl hp)) hphase
  | sampleHigh => exact absurd (.inr (.inr hp)) hphase
  | threshold => cases (tick_threshold d f hp).symm.trans h; exact ⟨rfl, rfl⟩
  | reconstruct => cases (tick_reconstruct d f hp).symm.trans h; exact ⟨rfl, rfl⟩
  | validate =>
    cases (tick_validate d f hp).symm.trans h
    dsimp only [State.onBlock_blk]
    split <;> exact ⟨rfl, rfl⟩
  | convert => cases (tick_convert d f hp).symm.trans h; exact ⟨rfl, rfl⟩
  | finish => cases (tick_finish d f hp).symm.trans h; exact ⟨rfl, rfl⟩

/-! ### Timeouts -/

theorem Phase.samples_iff_raises_timeout (q : Phase) : q.samples ↔ q.raises = some .timeout := by
  cases q <;> simp [Phase.samples, Phase.raises]

/-- A busy tick that leaves `ERR` = `TIMEOUT` has sampled the line and ended the transaction (R154). -/
theorem tick_timeout (hinv : s.Inv) (hbusy : s.blk.busy = true) (h : tick d f s = .next t)
    (herr : t.blk.err = .timeout) : s.blk.phase.samples ∧ t.blk.phase = .idle := by
  obtain ⟨u, hu, hinv'⟩ := tick_inv d f hinv
  cases hu.symm.trans h
  have hactive := hinv.block_ok.busy_iff_active.mp hbusy
  have hidle : t.blk.phase = .idle := by
    by_contra hrun
    obtain ⟨-, -, hok⟩ := hinv'.block_ok.flags_of_active hrun
    rw [hok] at herr
    cases herr
  refine ⟨?_, hidle⟩
  rcases tick_phase h with hnext | ⟨e, hraises, -, he, -⟩
  · have hfinish : s.blk.phase = .finish := by
      rw [hidle] at hnext
      revert hactive hnext
      cases s.blk.phase <;> simp [Phase.successors]
    cases (tick_finish d f hfinish).symm.trans h
    cases herr
  · rw [Phase.samples_iff_raises_timeout, hraises, ← he, herr]

/-- The sample `d` is counted by a counter that stands one below the ceiling (R154). -/
def State.AtCeiling (s : State) (d : Bool) : Prop :=
  (s.blk.phase = .ackWait ∧ d = true ∧ s.blk.icnt.toNat = 35999) ∨
  (s.blk.phase = .sampleLow ∧ d = false ∧ (s.blk.countAt s.blk.idx.toNat).toNat = 35999) ∨
  (s.blk.phase = .sampleHigh ∧ d = true ∧ (s.blk.countAt s.blk.idx.toNat).toNat = 35999)

theorem State.AtCeiling.samples (h : s.AtCeiling d) : s.blk.phase.samples :=
  h.imp And.left (Or.imp And.left And.left)

/-- A sampling tick raises `TIMEOUT` exactly at the ceiling (R151 to R154). -/
theorem tick_timeout_iff_of_samples (herr : s.blk.err = .ok) (hsamples : s.blk.phase.samples)
    (h : tick d f s = .next t) : t.blk.err = .timeout ↔ s.AtCeiling d := by
  rcases hsamples with hp | hp | hp
  · cases d
    · cases (tick_ackWait_low f hp).symm.trans h
      simp [State.AtCeiling, hp, herr]
    · cases (tick_ackWait_high f hp).symm.trans h
      by_cases hceil : s.blk.icnt.toNat = 35999 <;> simp [State.AtCeiling, hp, hceil, herr]
  · cases d
    · have hiff := countSample_err (s := s.withPins false f) herr ((tick_sampleLow_low f hp).symm.trans h)
      simpa [State.AtCeiling, hp] using hiff
    · have hkept := openNextCount_err ((tick_sampleLow_high f hp).symm.trans h)
      simp [State.AtCeiling, hp, hkept, herr]
  · cases d
    · by_cases hlast : s.blk.idx = 81#7
      · cases (tick_sampleHigh_low_last f hp hlast).symm.trans h
        simp [State.AtCeiling, hp, herr]
      · have hkept := openNextCount_err ((tick_sampleHigh_low f hp hlast).symm.trans h)
        simp [State.AtCeiling, hp, hkept, herr]
    · have hiff := countSample_err (s := s.withPins true f) herr ((tick_sampleHigh_high f hp).symm.trans h)
      simpa [State.AtCeiling, hp] using hiff

/-- A busy tick raises `TIMEOUT` exactly at the ceiling (R154). -/
theorem tick_timeout_iff (hinv : s.Inv) (hbusy : s.blk.busy = true) (h : tick d f s = .next t) :
    t.blk.err = .timeout ↔ s.AtCeiling d := by
  obtain ⟨-, -, herr⟩ := hinv.block_ok.flags_of_active (hinv.block_ok.busy_iff_active.mp hbusy)
  by_cases hsamples : s.blk.phase.samples
  · exact tick_timeout_iff_of_samples herr hsamples h
  · exact iff_of_false (fun he => hsamples (tick_timeout hinv hbusy h he).1) fun hc => hsamples hc.samples

/-- At the ceiling the counter becomes 36000, and no other counter changes (R154). -/
theorem tick_counts_at_ceiling (hceil : s.AtCeiling d) (h : tick d f s = .next t) :
    (s.blk.phase = .ackWait ∧ t.blk.icnt = 36000 ∧ t.blk.pulse = s.blk.pulse) ∨
      (s.blk.phase ≠ .ackWait ∧ t.blk.icnt = s.blk.icnt ∧ t.blk.countAt s.blk.idx.toNat = 36000 ∧
        ∀ i, i ≠ s.blk.idx.toNat → t.blk.countAt i = s.blk.countAt i) := by
  rcases hceil with ⟨hp, rfl, hcount⟩ | ⟨hp, rfl, hcount⟩ | ⟨hp, rfl, hcount⟩
  · cases (tick_ackWait_high f hp).symm.trans h
    dsimp only [State.onBlock_blk]
    rw [if_pos hcount]
    exact .inl ⟨hp, add_one_eq_ceiling hcount, rfl⟩
  · obtain ⟨hicnt, hcurrent, hother⟩ := countSample_counts ((tick_sampleLow_low f hp).symm.trans h)
    exact .inr ⟨by simp [hp], hicnt, hcurrent.trans (add_one_eq_ceiling hcount), hother⟩
  · obtain ⟨hicnt, hcurrent, hother⟩ := countSample_counts ((tick_sampleHigh_high f hp).symm.trans h)
    exact .inr ⟨by simp [hp], hicnt, hcurrent.trans (add_one_eq_ceiling hcount), hother⟩

/-- A busy tick without a timeout leaves every counter below the ceiling: the transaction goes on, or a tick that
counts nothing has ended it (R154, R36 g). -/
theorem tick_counts_below_ceiling (hinv : s.Inv) (hbusy : s.blk.busy = true) (h : tick d f s = .next t)
    (herr : t.blk.err ≠ .timeout) :
    t.blk.icnt.toNat ≤ 35999 ∧ ∀ i, i ≤ 81 → (t.blk.countAt i).toNat ≤ 35999 := by
  by_cases hsamples : s.blk.phase.samples
  · obtain ⟨u, hu, hinv'⟩ := tick_inv d f hinv
    cases hu.symm.trans h
    have hrun : t.blk.phase ≠ .idle := by
      rcases tick_phase h with hnext | ⟨e, hraises, -, he, -⟩
      · intro hidle
        rw [hidle] at hnext
        rcases hsamples with hp | hp | hp <;> simp [hp, Phase.successors] at hnext
      · rw [(Phase.samples_iff_raises_timeout _).mp hsamples, Option.some.injEq] at hraises
        exact absurd (he.trans hraises.symm) herr
    exact (hinv'.block_ok.counts_below_ceiling (hinv'.block_ok.busy_iff_active.mpr hrun)).symm
  · obtain ⟨hpulse, hicnt⟩ := tick_counts_of_not_samples hsamples h
    obtain ⟨hcounts, hinitial⟩ := hinv.block_ok.counts_below_ceiling hbusy
    rw [hicnt]
    exact ⟨hinitial, fun i hi => by rw [countAt_of_pulse_eq hpulse]; exact hcounts i hi⟩

/-! ### The buffer when decoding starts -/

/-- `THRESHOLD` is entered only by the low sample that ends window 41 (R153, R155). -/
theorem tick_enters_threshold (h : tick d f s = .next t) (hphase : t.blk.phase = .threshold) :
    s.blk.phase = .sampleHigh ∧ s.blk.idx = 81 := by
  have hp : s.blk.phase = .sampleHigh := by
    rcases tick_phase h with hnext | ⟨e, -, hidle, -⟩
    · rw [hphase] at hnext
      revert hnext
      cases s.blk.phase <;> simp [Phase.successors]
    · rw [hphase] at hidle
      cases hidle
  refine ⟨hp, ?_⟩
  by_contra hlast
  cases d
  · have hnext := openNextCount_phase ((tick_sampleHigh_low f hp hlast).symm.trans h)
    rw [hphase] at hnext
    cases hnext
  · rcases countSample_phase ((tick_sampleHigh_high f hp).symm.trans h) with hsame | ⟨hidle, -⟩
    · rw [hphase, State.withPins_blk, hp] at hsame
      cases hsame
    · rw [hphase] at hidle
      cases hidle

/-- A sample at the ceiling decodes nothing (R155). -/
theorem tick_decoded_at_ceiling (hceil : s.AtCeiling d) (h : tick d f s = .next t) :
    t.blk.frame = s.blk.frame ∧ t.blk.sum = s.blk.sum ∧ t.blk.thresh = s.blk.thresh := by
  rcases hceil with ⟨hp, rfl, -⟩ | ⟨hp, rfl, -⟩ | ⟨hp, rfl, -⟩
  · cases (tick_ackWait_high f hp).symm.trans h
    dsimp only [State.onBlock_blk]
    split <;> exact ⟨rfl, rfl, rfl⟩
  · exact countSample_decoded (s := s.withPins false f) ((tick_sampleLow_low f hp).symm.trans h)
  · exact countSample_decoded (s := s.withPins true f) ((tick_sampleHigh_high f hp).symm.trans h)

theorem Phase.samples.rank_lt {q : Phase} (h : q.samples) : q.rank < Phase.threshold.rank := by
  rcases h with rfl | rfl | rfl <;> decide

end

/-! ### The statements -/

/-- Settles O28: the ceiling phase by phase; without a timeout the invariant bounds the counters, or they stand. -/
theorem timeoutExactlyAtTheCeiling : Obligations.TimeoutExactlyAtTheCeiling := by
  unfold Obligations.TimeoutExactlyAtTheCeiling
  intro s t din padFail hinv hbusy h
  have hiff := tick_timeout_iff hinv hbusy h
  exact ⟨hiff, fun herr => tick_counts_at_ceiling (hiff.mp herr) h, tick_counts_below_ceiling hinv hbusy h⟩

/-- Settles O29: the counts by the invariant after the tick; before a timeout nothing has been decoded. -/
theorem bufferIsCompleteWhenDecodeProceeds : Obligations.BufferIsCompleteWhenDecodeProceeds := by
  unfold Obligations.BufferIsCompleteWhenDecodeProceeds
  intro s t din padFail hinv hbusy h
  obtain ⟨u, hu, hinv'⟩ := perform_inv (.tick din padFail) hinv
  cases hu.symm.trans h
  refine ⟨fun hphase => ?_, fun herr => ?_⟩
  · obtain ⟨hp, hidx⟩ := tick_enters_threshold h hphase
    have hbusy' := hinv'.block_ok.busy_iff_active.mpr (by simp [hphase])
    obtain ⟨hle, -⟩ := hinv'.block_ok.counts_below_ceiling hbusy'
    exact ⟨hp, hidx, fun i hi => ⟨hinv'.block_ok.counts_when_decoding (by rw [hphase]) i hi, hle i hi⟩⟩
  · obtain ⟨hsamples, hidle⟩ := tick_timeout hinv hbusy h herr
    obtain ⟨hframe, hsum, hthresh⟩ := tick_decoded_at_ceiling ((tick_timeout_iff hinv hbusy h).mp herr) h
    have hactive := hinv.block_ok.busy_iff_active.mp hbusy
    have hrank := hsamples.rank_lt
    obtain ⟨hsum0, hthresh0⟩ := hinv.block_ok.sum_clear hactive hrank.le
    have hframe0 := hinv.block_ok.frame_clear hactive (hrank.le.trans (by decide))
    obtain ⟨hhum, htemp⟩ := hinv'.block_ok.results_read_zero (.inr (by simp [herr]))
    exact ⟨hframe.trans hframe0, hsum.trans hsum0, hthresh.trans hthresh0, hhum, htemp, hidle⟩

/-- Settles O25: the operation's three outcomes; entry 0 is in the buffer. -/
theorem ackWaitCountsHighSamples : Obligations.AckWaitCountsHighSamples := by
  unfold Obligations.AckWaitCountsHighSamples
  refine ⟨rfl, rfl, fun s => exec_ackWait_counts, fun s => exec_ackWait_ceiling, fun s hdin => ?_⟩
  rw [exec_ackWait_low hdin, State.onBlock, Block.setCount_eq_set _ (by decide : 0 < 82)]

end Sys2Proof.Machine
end

section
/-! PROOFS. Pulse sampling over many ticks (42_pulse_sampling.md R156, R157). A line that starts high is a list of
runs, the initial wait the first of them; one tick counts a sample of the current run or opens the next. Both
statements are inductions over the ticks. -/

namespace Sys2Proof.Machine

/-! ### Alternating runs -/

theorem runLevel_succ (k : Nat) : runLevel (k + 1) = !runLevel k := by
  rw [runLevel, runLevel, Nat.add_mod]
  rcases Nat.mod_two_eq_zero_or_one k with h | h <;> rw [h] <;> rfl

theorem runLevel_add_two (k : Nat) : runLevel (k + 1 + 1) = runLevel k := by
  rw [runLevel_succ, runLevel_succ, Bool.not_not]

/-- Each run flips the level. -/
theorem alternatingRuns_append (level : Bool) (xs ys : List Nat) :
    alternatingRuns level (xs ++ ys) =
      alternatingRuns level xs ++ alternatingRuns (level ^^ runLevel xs.length) ys := by
  induction xs generalizing level with
  | nil => cases level <;> rfl
  | cons x xs ih =>
    have hlevel : (!level ^^ runLevel xs.length) = (level ^^ runLevel (xs.length + 1)) := by
      rw [runLevel_succ, Bool.not_xor, Bool.xor_not]
    rw [List.cons_append, alternatingRuns, ih, hlevel, ← List.append_assoc]
    rfl

/-- The runs of a line that starts high: run `k` is at `runLevel (k + 1)`. -/
theorem alternatingRuns_concat (finished : List Nat) (n : Nat) :
    alternatingRuns true (finished ++ [n]) =
      alternatingRuns true finished ++ List.replicate n (runLevel (finished.length + 1)) := by
  rw [alternatingRuns_append, Bool.true_xor, ← runLevel_succ, alternatingRuns, alternatingRuns, List.append_nil]

/-- More samples of the last run. -/
theorem alternatingRuns_concat_add (finished : List Nat) (n k : Nat) :
    alternatingRuns true (finished ++ [n + k]) =
      alternatingRuns true (finished ++ [n]) ++ List.replicate k (runLevel (finished.length + 1)) := by
  rw [alternatingRuns_concat, alternatingRuns_concat, List.replicate_add, List.append_assoc]

/-- The first sample of the next run. -/
theorem alternatingRuns_concat_one (finished : List Nat) :
    alternatingRuns true (finished ++ [1]) = alternatingRuns true finished ++ [runLevel (finished.length + 1)] :=
  alternatingRuns_concat finished 1

theorem length_alternatingRuns (level : Bool) (runs : List Nat) :
    (alternatingRuns level runs).length = runs.sum := by
  induction runs generalizing level with
  | nil => rfl
  | cons n rest ih => rw [alternatingRuns, List.length_append, List.length_replicate, ih, List.sum_cons]

/-- Every run is below the ceiling, and every run after the initial wait has a sample. -/
def RunsInRange (counts : List Nat) : Prop :=
  (∀ m ∈ counts, m ≤ 35999) ∧ ∀ m ∈ counts.tail, 1 ≤ m

theorem runsInRange_cons (a : Nat) (runs : List Nat) :
    RunsInRange (a :: runs) ↔ a ≤ 35999 ∧ ∀ n ∈ runs, 1 ≤ n ∧ n ≤ 35999 := by
  rw [RunsInRange, List.forall_mem_cons, List.tail_cons, and_assoc]
  exact and_congr_right fun _ => and_comm.trans forall₂_and.symm

theorem RunsInRange.concat_succ {finished : List Nat} {n : Nat} (h : RunsInRange (finished ++ [n]))
    (hn : n + 1 ≤ 35999) : RunsInRange (finished ++ [n + 1]) := by
  cases finished with
  | nil => exact (runsInRange_cons _ _).mpr ⟨hn, by simp⟩
  | cons a runs =>
    rw [List.cons_append, runsInRange_cons, List.forall_mem_append, List.forall_mem_singleton] at h ⊢
    obtain ⟨ha, hruns, -⟩ := h
    exact ⟨ha, hruns, by omega, hn⟩

theorem RunsInRange.concat_one {finished : List Nat} (h : RunsInRange finished) : RunsInRange (finished ++ [1]) := by
  cases finished with
  | nil => exact (runsInRange_cons _ _).mpr ⟨by decide, by simp⟩
  | cons a runs =>
    rw [runsInRange_cons] at h
    rw [List.cons_append, runsInRange_cons, List.forall_mem_append, List.forall_mem_singleton]
    obtain ⟨ha, hruns⟩ := h
    exact ⟨ha, hruns, by decide⟩

/-- A train in range, its initial wait counted among its runs (R93, R157). -/
theorem pulseTrainInRange_iff (a : Nat) (runs : List Nat) :
    PulseTrainInRange ⟨a, runs⟩ ↔ runs.length = 82 ∧ RunsInRange (a :: runs) := by
  simp only [PulseTrainInRange, PulseTrain.wellFormed, runsInRange_cons, forall₂_and, Bool.and_eq_true,
    decide_eq_true_eq, List.all_eq_true]
  tauto

/-! ### The buffer in the middle of a train -/

/-- The buffer `v` with its first entries overwritten by `runs`. -/
def recordRuns (v : Vector Count 82) (runs : List Nat) : Vector Count 82 :=
  Vector.ofFn fun i => (runs[i.val]?.map (BitVec.ofNat 16)).getD v[i]

@[simp] theorem recordRuns_nil (v : Vector Count 82) : recordRuns v [] = v := by
  ext i hi
  simp [recordRuns]

theorem recordRuns_clear (runs : List Nat) : recordRuns (Vector.replicate 82 0) runs = pulseOfRuns runs := by
  ext i hi
  cases h : runs[i]? <;> simp [recordRuns, pulseOfRuns, h]

/-- The last entry in use. -/
theorem recordRuns_last (v : Vector Count 82) {runs : List Nat} (n : Nat) (h : runs.length < 82) :
    (recordRuns v (runs ++ [n]))[runs.length] = BitVec.ofNat 16 n := by
  simp [recordRuns]

/-- Writing the entry after `runs`, in use or not. -/
theorem recordRuns_set (v : Vector Count 82) (runs : List Nat) {last : List Nat} (hlast : last.length ≤ 1) (n : Nat) :
    (recordRuns v (runs ++ last)).setIfInBounds runs.length (BitVec.ofNat 16 n) = recordRuns v (runs ++ [n]) := by
  apply pulse_ext
  intro i hi
  rw [Vector.getElem_setIfInBounds]
  rcases lt_trichotomy i runs.length with hlt | rfl | hgt
  · simp [recordRuns, hlt.ne', List.getElem?_append_left hlt]
  · simp [recordRuns]
  · have hout : (runs ++ last)[i]? = none := List.getElem?_eq_none (by simp; omega)
    have hout' : (runs ++ [n])[i]? = none := List.getElem?_eq_none (by simp; omega)
    simp [recordRuns, hgt.ne, hout, hout']

/-- The phase in which entry `k` of the buffer is counted (R152, R153). -/
def countingPhase (k : Nat) : Phase := if runLevel k then .sampleHigh else .sampleLow

/-- The block `b` in the middle of a train: the initial wait and the runs `finished`, then `n` samples of the
next one. -/
def Block.sampled (b : Block) : List Nat → Nat → Block
  | [], n => { b with icnt := BitVec.ofNat 16 n, phase := .ackWait }
  | a :: runs, n =>
    { b with
      icnt := BitVec.ofNat 16 a, pulse := recordRuns b.pulse (runs ++ [n]), idx := BitVec.ofNat 7 runs.length
      phase := countingPhase runs.length }

section
variable {b : Block} {a n : Nat} {runs : List Nat}

theorem toNat_idx_of_le {k : Nat} (h : k ≤ 81) : (BitVec.ofNat 7 k).toNat = k :=
  (BitVec.toNat_ofNat _ _).trans (Nat.mod_eq_of_lt (by omega))

theorem toNat_count_of_le {k : Nat} (h : k ≤ 35999) : (BitVec.ofNat 16 k).toNat = k :=
  (BitVec.toNat_ofNat _ _).trans (Nat.mod_eq_of_lt (by omega))

theorem Block.sampled_start (hphase : b.phase = .ackWait) (hicnt : b.icnt = 0) : b.sampled [] 0 = b := by
  obtain ⟨⟩ := b
  cases hphase
  cases hicnt
  rfl

theorem Block.sampled_countAt (h : runs.length ≤ 81) :
    (b.sampled (a :: runs) n).countAt runs.length = BitVec.ofNat 16 n :=
  (countAt_eq_getElem _ (by omega)).trans (recordRuns_last b.pulse n (by omega))

/-- Another count of the current run. -/
theorem Block.sampled_setCount (m : Nat) :
    (b.sampled (a :: runs) n).setCount runs.length (BitVec.ofNat 16 m) = b.sampled (a :: runs) m := by
  simp only [Block.sampled, Block.setCount, recordRuns_set b.pulse runs (last := [n]) le_rfl m]

/-- The first run opened at the end of the initial wait (R151). -/
theorem Block.sampled_openFirst :
    { (b.sampled [] n).setCount 0 1 with idx := 0, phase := .sampleLow } = b.sampled [n] 1 := by
  have hpulse : b.pulse.setIfInBounds 0 1 = recordRuns b.pulse [1] := by
    simpa using recordRuns_set b.pulse [] (last := []) (by decide) 1
  simp only [Block.sampled, Block.setCount, hpulse]
  rfl

/-- The next run opened at the end of the current one (R152, R153). -/
theorem Block.sampled_openNext :
    { (b.sampled (a :: runs) n).setCount (runs.length + 1) 1 with
      idx := BitVec.ofNat 7 runs.length + 1, phase := countingPhase (runs.length + 1) } =
      b.sampled (a :: runs ++ [n]) 1 := by
  have hpulse : (recordRuns b.pulse (runs ++ [n])).setIfInBounds (runs.length + 1) 1 =
      recordRuns b.pulse (runs ++ [n] ++ [1]) := by
    simpa using recordRuns_set b.pulse (runs ++ [n]) (last := []) (by decide) 1
  have hidx : BitVec.ofNat 7 runs.length + 1 = BitVec.ofNat 7 (runs ++ [n]).length := by
    rw [List.length_append, BitVec.ofNat_add]
    rfl
  simp only [Block.sampled, Block.setCount, List.cons_append, hpulse, hidx, List.length_append, List.length_singleton]

end

/-! ### One tick -/

section
variable {s : State} {k : Nat} (f : Bool)

/-- A sample at the level of the run being counted (R152, R153). -/
theorem tick_counting_same (hphase : s.blk.phase = countingPhase k) :
    tick (runLevel k) f s = countSample (s.withPins (runLevel k) f) := by
  rw [countingPhase] at hphase
  cases hlevel : runLevel k <;> simp only [hlevel, if_true, if_false, reduceCtorEq] at hphase
  · exact tick_sampleLow_low f hphase
  · exact tick_sampleHigh_high f hphase

/-- A sample at the other level opens the next entry (R152, R153). -/
theorem tick_counting_other (hphase : s.blk.phase = countingPhase k) (hidx : s.blk.idx ≠ 81#7) :
    tick (!runLevel k) f s = openNextCount (countingPhase (k + 1)) (s.withPins (!runLevel k) f) := by
  rw [countingPhase] at hphase
  rw [countingPhase, runLevel_succ]
  cases hlevel : runLevel k <;> simp only [hlevel, if_true, if_false, reduceCtorEq] at hphase
  · exact tick_sampleLow_high f hphase
  · exact tick_sampleHigh_low f hphase hidx

end

section
variable {s : State} {b : Block} {finished : List Nat} {n : Nat} (f : Bool)

/-- One more sample of the run being counted: the count goes up, or ends the transaction (R154). -/
theorem tick_sampled_same (hblk : s.blk = b.sampled finished n) (hlen : finished.length ≤ 82) (hn : n ≤ 35999) :
    tick (runLevel (finished.length + 1)) f s =
      .next ((s.withPins (runLevel (finished.length + 1)) f).onBlock fun _ =>
        if n = 35999 then (b.sampled finished (n + 1)).abort .timeout else b.sampled finished (n + 1)) := by
  cases finished with
  | nil =>
    have hceil : s.blk.icnt.toNat = n := by
      rw [hblk]
      exact toNat_count_of_le hn
    have hcount : { b.sampled [] n with icnt := (b.sampled [] n).icnt + 1 } = b.sampled [] (n + 1) := by
      simp only [Block.sampled, BitVec.ofNat_add]
      rfl
    refine (tick_ackWait_high f (by rw [hblk]; rfl)).trans ?_
    simp only [State.onBlock, State.withPins_blk, hceil]
    rw [hblk, hcount]
    rfl
  | cons a runs =>
    rw [List.length_cons] at hlen
    have hidx : s.blk.idx.toNat = runs.length := by
      rw [hblk]
      exact toNat_idx_of_le (by omega)
    have hcurrent : s.blk.countAt runs.length = BitVec.ofNat 16 n := by
      rw [hblk, Block.sampled_countAt (by omega)]
    have hcount : s.blk.setCount runs.length (BitVec.ofNat 16 n + 1) = b.sampled (a :: runs) (n + 1) := by
      rw [hblk, ← Block.sampled_setCount (n := n) (n + 1), BitVec.ofNat_add]
      rfl
    rw [List.length_cons, runLevel_add_two, tick_counting_same f (by rw [hblk]; rfl),
      countSample_eq _ (by rw [State.withPins_blk, hidx]; omega)]
    simp only [State.onBlock, State.withPins_blk, hidx, hcurrent, hcount, toNat_count_of_le hn]

/-- The first sample of the next run (R151 to R153). -/
theorem tick_sampled_next (hblk : s.blk = b.sampled finished n) (hlen : finished.length < 82) :
    tick (!runLevel (finished.length + 1)) f s =
      .next ((s.withPins (!runLevel (finished.length + 1)) f).onBlock fun _ => b.sampled (finished ++ [n]) 1) := by
  cases finished with
  | nil =>
    refine (tick_ackWait_low f (by rw [hblk]; rfl)).trans ?_
    rw [State.onBlock, State.withPins_blk, hblk, Block.sampled_openFirst]
    rfl
  | cons a runs =>
    rw [List.length_cons] at hlen
    have hidx : s.blk.idx = BitVec.ofNat 7 runs.length := by
      rw [hblk]
      rfl
    have hidx' : s.blk.idx.toNat = runs.length := by
      rw [hidx, toNat_idx_of_le (by omega)]
    rw [List.length_cons, runLevel_add_two, tick_counting_other f (by rw [hblk]; rfl) (by bv_omega),
      openNextCount_eq _ _ (by rw [State.withPins_blk, hidx']; omega), State.onBlock, State.withPins_blk, hidx', hidx,
      hblk, Block.sampled_openNext]
    rfl

/-- The low sample that ends window 41 (R153). -/
theorem tick_sampled_complete (hblk : s.blk = b.sampled finished n) (hlen : finished.length = 82) :
    tick false f s =
      .next ((s.withPins false f).onBlock fun _ => { b.sampled finished n with phase := .threshold }) := by
  obtain ⟨a, runs, rfl⟩ := List.exists_cons_of_length_eq_add_one hlen
  have hruns : runs.length = 81 := Nat.succ.inj hlen
  have hphase : s.blk.phase = .sampleHigh := by
    rw [hblk, Block.sampled, hruns]
    rfl
  have hidx : s.blk.idx = 81#7 := by
    rw [hblk, Block.sampled, hruns]
  rw [tick_sampleHigh_low_last f hphase hidx, State.onBlock, State.withPins_blk, hblk]
  rfl

end

/-! ### Many ticks -/

/-- The ticks leave the pad's claim as it was and the block as `P` says. -/
def TicksTo (ins : List (Bool × Bool)) (s : State) (P : Block → Prop) : Prop :=
  ∃ u, ticks ins s = .next u ∧ u.padClaim = s.padClaim ∧ P u.blk

/-- The transaction has ended with `TIMEOUT` (R215). -/
def Block.TimedOut (b : Block) : Prop :=
  b.phase = .idle ∧ b.err = .timeout ∧ b.done = true ∧ b.busy = false

section
variable {s : State} {P Q : Block → Prop} {xs ys : List (Bool × Bool)}

theorem TicksTo.nil (h : P s.blk) : TicksTo [] s P := ⟨s, rfl, rfl, h⟩

theorem TicksTo.mono (h : TicksTo xs s P) (himp : ∀ c, P c → Q c) : TicksTo xs s Q := by
  obtain ⟨u, hu, hclaim, hP⟩ := h
  exact ⟨u, hu, hclaim, himp _ hP⟩

/-- Ticks after ticks. -/
theorem TicksTo.append (h : TicksTo xs s P) (hrest : ∀ u : State, P u.blk → TicksTo ys u Q) :
    TicksTo (xs ++ ys) s Q := by
  obtain ⟨u, hu, hclaim, hP⟩ := h
  obtain ⟨v, hv, hclaim', hQ⟩ := hrest u hP
  exact ⟨v, by rw [ticks_append, hu, andThen_next, hv], hclaim'.trans hclaim, hQ⟩

/-- One tick of an operation on the block. -/
theorem TicksTo.single {d f : Bool} {c : Block}
    (h : tick d f s = .next ((s.withPins d f).onBlock fun _ => c)) : TicksTo [(d, f)] s (· = c) :=
  ⟨(s.withPins d f).onBlock fun _ => c, by rw [ticks, h, andThen_next, ticks], rfl, rfl⟩

/-- An ended transaction stays as it ended (R114). -/
theorem Block.TimedOut.stays (h : s.blk.TimedOut) (ins : List (Bool × Bool)) : TicksTo ins s Block.TimedOut := by
  induction ins generalizing s with
  | nil => exact .nil h
  | cons i rest ih =>
    obtain ⟨d, f⟩ := i
    exact TicksTo.append (xs := [(d, f)]) (.single (tick_idle d f h.1)) fun u hu => ih (hu ▸ h)

end

/-- The block in the middle of a train with no run at the ceiling, or the timeout of one that is (R154). -/
def Block.SampledOrTimedOut (b : Block) (finished : List Nat) (n : Nat) (c : Block) : Prop :=
  (∀ m ∈ finished ++ [n], m ≤ 35999) ∧ c = b.sampled finished n ∨
    (∃ m ∈ finished ++ [n], 36000 ≤ m) ∧ c.TimedOut

section
variable {s : State} {b : Block} {finished : List Nat} {n k : Nat} {ins : List (Bool × Bool)}

/-- More samples of the run being counted. -/
theorem ticksTo_same_run (hblk : s.blk = b.sampled finished n) (hlen : finished.length ≤ 82)
    (hfinished : ∀ m ∈ finished, m ≤ 35999) (hn : n ≤ 35999)
    (hins : ins.map Prod.fst = List.replicate k (runLevel (finished.length + 1))) :
    TicksTo ins s (b.SampledOrTimedOut finished (n + k)) := by
  induction k generalizing s n ins with
  | zero =>
    obtain rfl : ins = [] := List.map_eq_nil_iff.mp hins
    refine .nil (.inl ⟨?_, hblk⟩)
    rw [List.forall_mem_append, List.forall_mem_singleton]
    exact ⟨hfinished, hn⟩
  | succ k ih =>
    obtain ⟨⟨d, f⟩, rest, rfl, rfl, hrest⟩ := List.map_eq_cons_iff.mp hins
    refine TicksTo.append (xs := [(_, f)]) (.single (tick_sampled_same f hblk hlen hn)) fun u hu => ?_
    by_cases hceil : n = 35999
    · rw [if_pos hceil] at hu
      have hended : u.blk.TimedOut := hu ▸ ⟨rfl, rfl, rfl, rfl⟩
      exact (hended.stays rest).mono fun c hc => .inr ⟨⟨n + (k + 1), by simp, by omega⟩, hc⟩
    · rw [if_neg hceil] at hu
      rw [show n + (k + 1) = n + 1 + k by omega]
      exact ih hu (by omega) hrest

/-- A whole run after the one being counted. -/
theorem ticksTo_next_run (hblk : s.blk = b.sampled finished n) (hlen : finished.length < 82)
    (hle : ∀ m ∈ finished ++ [n], m ≤ 35999)
    (hins : ins.map Prod.fst = List.replicate (k + 1) (!runLevel (finished.length + 1))) :
    TicksTo ins s (b.SampledOrTimedOut (finished ++ [n]) (k + 1)) := by
  obtain ⟨⟨d, f⟩, rest, rfl, rfl, hrest⟩ := List.map_eq_cons_iff.mp hins
  refine TicksTo.append (xs := [(_, f)]) (.single (tick_sampled_next f hblk hlen)) fun u hu => ?_
  have hlength : (finished ++ [n]).length = finished.length + 1 := List.length_append
  rw [Nat.add_comm k 1]
  refine ticksTo_same_run hu (by omega) hle (by decide) ?_
  rwa [hlength, runLevel_succ]

/-- A line that starts high, run by run, as far as 82 runs after the initial wait. -/
theorem ticksTo_runs (hblk : s.blk = b.sampled [] 0) (hlen : finished.length ≤ 82)
    (hpos : ∀ m ∈ (finished ++ [n]).tail, 1 ≤ m)
    (hins : ins.map Prod.fst = alternatingRuns true (finished ++ [n])) :
    TicksTo ins s (b.SampledOrTimedOut finished n) := by
  rw [alternatingRuns_concat] at hins
  induction finished using List.reverseRecOn generalizing n ins with
  | nil =>
    rw [← Nat.zero_add n]
    exact ticksTo_same_run hblk hlen (by simp) (Nat.zero_le _) hins
  | append_singleton finished m ih =>
    rw [List.length_append, List.length_singleton] at hlen hins
    rw [List.tail_append_of_ne_nil (by simp), List.forall_mem_append, List.forall_mem_singleton] at hpos
    obtain ⟨hpos, hn⟩ := hpos
    obtain ⟨k, rfl⟩ := Nat.exists_eq_add_of_le' hn
    obtain ⟨xs, ys, rfl, hxs, hys⟩ := List.map_eq_append_iff.mp hins
    rw [alternatingRuns_concat] at hxs
    refine (ih (by omega) hpos hxs).append fun u hu => ?_
    rcases hu with ⟨hle, hu⟩ | ⟨⟨x, hx, hceil⟩, hended⟩
    · rw [runLevel_succ] at hys
      exact ticksTo_next_run hu (by omega) hle hys
    · exact (hended.stays ys).mono fun c hc => .inr ⟨⟨x, List.mem_append_left _ hx, hceil⟩, hc⟩

/-- With every run in range there is no timeout. -/
theorem ticksTo_runs_inRange (hblk : s.blk = b.sampled [] 0) (hlen : finished.length ≤ 82)
    (hrange : RunsInRange (finished ++ [n])) (hins : ins.map Prod.fst = alternatingRuns true (finished ++ [n])) :
    TicksTo ins s (· = b.sampled finished n) := by
  obtain ⟨hle, hpos⟩ := hrange
  refine (ticksTo_runs hblk hlen hpos hins).mono fun c hc => ?_
  rcases hc with ⟨-, hc⟩ | ⟨⟨m, hm, hceil⟩, -⟩
  · exact hc
  · have := hle m hm
    omega

/-- With a run at the ceiling there is one. -/
theorem ticksTo_runs_timedOut (hblk : s.blk = b.sampled [] 0) (hlen : finished.length ≤ 82)
    (hpos : ∀ m ∈ (finished ++ [n]).tail, 1 ≤ m) (hceil : ∃ m ∈ finished ++ [n], 36000 ≤ m)
    (hins : ins.map Prod.fst = alternatingRuns true (finished ++ [n])) : TicksTo ins s Block.TimedOut := by
  refine (ticksTo_runs hblk hlen hpos hins).mono fun c hc => ?_
  obtain ⟨m, hm, hm'⟩ := hceil
  rcases hc with ⟨hle, -⟩ | ⟨-, hended⟩
  · have := hle m hm
    omega
  · exact hended

/-- The runs before it in range, a run of 36000 samples: the last one ends the transaction. -/
theorem ticksTo_ceiling (hblk : s.blk = b.sampled [] 0) (hlen : finished.length ≤ 82)
    (hrange : RunsInRange (finished ++ [35999]))
    (hins : ins.map Prod.fst = alternatingRuns true (finished ++ [36000])) :
    TicksTo ins s (· = (b.sampled finished 36000).abort .timeout) := by
  rw [alternatingRuns_concat_add finished 35999 1] at hins
  obtain ⟨xs, ys, rfl, hxs, hys⟩ := List.map_eq_append_iff.mp hins
  obtain ⟨⟨d, f⟩, rest, rfl, rfl, hrest⟩ := List.map_eq_cons_iff.mp hys
  obtain rfl : rest = [] := List.map_eq_nil_iff.mp hrest
  exact (ticksTo_runs_inRange hblk hlen hrange hxs).append fun u hu =>
    .single (tick_sampled_same f hu hlen le_rfl)

/-- A complete train in range. -/
theorem ticksTo_complete (hblk : s.blk = b.sampled [] 0) (hlen : finished.length = 82)
    (hrange : RunsInRange (finished ++ [n]))
    (hins : ins.map Prod.fst = alternatingRuns true (finished ++ [n]) ++ [false]) :
    TicksTo ins s (· = { b.sampled finished n with phase := .threshold }) := by
  obtain ⟨xs, ys, rfl, hxs, hys⟩ := List.map_eq_append_iff.mp hins
  obtain ⟨⟨d, f⟩, rest, rfl, rfl, hrest⟩ := List.map_eq_cons_iff.mp hys
  obtain rfl : rest = [] := List.map_eq_nil_iff.mp hrest
  exact (ticksTo_runs_inRange hblk hlen.le hrange hxs).append fun u hu =>
    .single (tick_sampled_complete f hu hlen)

end

/-! ### Which samples reach `THRESHOLD` -/

/-- What the samples `levels`, taken from `ACK_WAIT` on, have made of the block `b`: the middle of a train in range, a
complete one, or the sampling is over. -/
inductive Block.Progress (b : Block) (levels : List Bool) (c : Block) : Prop where
  | sampling (finished : List Nat) (n : Nat) (hlen : finished.length ≤ 82) (hrange : RunsInRange (finished ++ [n]))
      (hlevels : levels = alternatingRuns true (finished ++ [n])) (hblk : c = b.sampled finished n)
  | complete (t : PulseTrain) (hrange : PulseTrainInRange t) (hlevels : levels = t.samples)
      (hphase : c.phase = .threshold)
  | past (hphase : c.phase = .idle ∨ Phase.threshold.rank < c.phase.rank)

section
variable {s t u : State} {b : Block} {levels : List Bool} {d f : Bool}

/-- The graph leads from `THRESHOLD` on only forward and to `IDLE` (R38). -/
theorem Phase.past_of_mem_successors {p q : Phase} (hp : p = .idle ∨ Phase.threshold.rank ≤ p.rank)
    (hq : q ∈ p.successors) : q = .idle ∨ Phase.threshold.rank < q.rank := by
  cases p with
  | idle | finish => exact .inl (List.mem_singleton.mp hq)
  | threshold | reconstruct | validate | convert =>
    obtain rfl := List.mem_singleton.mp hq
    decide
  | lineReset | claimOut | wakeHigh | wakeLow | releaseOut | claimIn | settle | ackWait | sampleLow | sampleHigh =>
    exact absurd hp (by decide)

/-- From `THRESHOLD` on, and from the end of a transaction, no tick goes back (R38). -/
theorem tick_phase_past (hphase : s.blk.phase = .idle ∨ Phase.threshold.rank ≤ s.blk.phase.rank)
    (h : tick d f s = .next t) : t.blk.phase = .idle ∨ Phase.threshold.rank < t.blk.phase.rank := by
  rcases tick_phase h with hnext | ⟨e, -, hidle, -⟩
  · exact Phase.past_of_mem_successors hphase hnext
  · exact .inl hidle

/-- A train is a line that starts high: its initial wait and its runs, then one low sample (R93). -/
theorem samples_eq_alternatingRuns (a : Nat) (runs : List Nat) :
    PulseTrain.samples ⟨a, runs⟩ = alternatingRuns true (a :: runs) ++ [false] := rfl

/-- A sample in the middle of a train. -/
theorem Block.sampled_progress {finished : List Nat} {n : Nat} (hlen : finished.length ≤ 82)
    (hrange : RunsInRange (finished ++ [n])) (hlevels : levels = alternatingRuns true (finished ++ [n]))
    (hblk : s.blk = b.sampled finished n) (h : tick d f s = .next u) : b.Progress (levels ++ [d]) u.blk := by
  have hn : n ≤ 35999 := hrange.1 n (by simp)
  rcases Bool.eq_or_eq_not d (runLevel (finished.length + 1)) with rfl | rfl
  · cases (tick_sampled_same f hblk hlen hn).symm.trans h
    by_cases hceil : n = 35999
    · exact .past (.inl (by simp [hceil]))
    · refine .sampling finished (n + 1) hlen (hrange.concat_succ (by omega)) ?_ (if_neg hceil)
      rw [hlevels, alternatingRuns_concat_add]
      rfl
  · by_cases hroom : finished.length < 82
    · cases (tick_sampled_next f hblk hroom).symm.trans h
      refine .sampling (finished ++ [n]) 1 (by simp; omega) hrange.concat_one ?_ rfl
      rw [hlevels, alternatingRuns_concat_one (finished ++ [n]), List.length_append, List.length_singleton,
        runLevel_succ (finished.length + 1)]
    · have hfull : finished.length = 82 := by omega
      rw [hfull] at h ⊢
      cases (tick_sampled_complete f hblk hfull).symm.trans h
      obtain ⟨a, runs, rfl⟩ := List.exists_cons_of_length_eq_add_one hfull
      have hruns : (runs ++ [n]).length = 82 := by simpa using hfull
      refine .complete ⟨a, runs ++ [n]⟩ ((pulseTrainInRange_iff a _).mpr ⟨hruns, hrange⟩) ?_ rfl
      rw [samples_eq_alternatingRuns, hlevels]
      rfl

theorem Block.Progress.after_tick (hprogress : b.Progress levels s.blk) (h : tick d f s = .next u) :
    b.Progress (levels ++ [d]) u.blk := by
  cases hprogress with
  | sampling finished n hlen hrange hlevels hblk => exact Block.sampled_progress hlen hrange hlevels hblk h
  | complete t hrange hlevels hphase => exact .past (tick_phase_past (.inr (by rw [hphase])) h)
  | past hphase => exact .past (tick_phase_past (hphase.imp_right le_of_lt) h)

theorem Block.Progress.after_ticks {ins : List (Bool × Bool)} (hprogress : b.Progress levels s.blk)
    (h : ticks ins s = .next u) : b.Progress (levels ++ ins.map Prod.fst) u.blk := by
  induction ins generalizing s levels with
  | nil =>
    cases h
    rwa [List.map_nil, List.append_nil]
  | cons i rest ih =>
    obtain ⟨v, hv, hrest⟩ := andThen_eq_next h
    have hwhole := ih (hprogress.after_tick hv) hrest
    rwa [List.append_assoc] at hwhole

/-- Before the first sample. -/
theorem Block.progress_start (hphase : b.phase = .ackWait) (hicnt : b.icnt = 0) : b.Progress [] b :=
  .sampling [] 0 (by simp) (by simp [RunsInRange]) rfl (Block.sampled_start hphase hicnt).symm

theorem Block.sampled_phase_samples (finished : List Nat) (n : Nat) : (b.sampled finished n).phase.samples := by
  cases finished with
  | nil => exact .inl rfl
  | cons a runs =>
    right
    show countingPhase runs.length = _ ∨ countingPhase runs.length = _
    rw [countingPhase]
    split
    · exact .inr rfl
    · exact .inl rfl

/-- `THRESHOLD` is reached only by a complete train in range (R156). -/
theorem Block.Progress.complete_of_threshold {c : Block} (h : b.Progress levels c) (hphase : c.phase = .threshold) :
    ∃ t, PulseTrainInRange t ∧ levels = t.samples := by
  cases h with
  | sampling finished n hlen hrange hlevels hblk =>
    have hsamples := b.sampled_phase_samples finished n
    rw [← hblk, hphase] at hsamples
    simp [Phase.samples] at hsamples
  | complete t hrange hlevels _ => exact ⟨t, hrange, hlevels⟩
  | past hover =>
    rw [hphase] at hover
    exact absurd hover (by decide)

end

/-! ### Whole trains -/

section
variable {s : State} {ins : List (Bool × Bool)}

theorem State.sampled_start (hphase : s.blk.phase = .ackWait) (hicnt : s.blk.icnt = 0) : s.blk = s.blk.sampled [] 0 :=
  (Block.sampled_start hphase hicnt).symm

/-- The ticks of a complete train in range (R156, R157), whatever the buffer held. -/
theorem ticksTo_train {t : PulseTrain} (hphase : s.blk.phase = .ackWait) (hicnt : s.blk.icnt = 0)
    (hrange : PulseTrainInRange t) (hins : ins.map Prod.fst = t.samples) :
    TicksTo ins s (· = { s.blk with
      icnt := BitVec.ofNat 16 t.initial, pulse := recordRuns s.blk.pulse t.runs, idx := 81, phase := .threshold }) := by
  obtain ⟨a, runs⟩ := t
  obtain ⟨hlen, hruns⟩ := (pulseTrainInRange_iff a runs).mp hrange
  obtain ⟨before, n, rfl⟩ := (List.eq_nil_or_concat' runs).resolve_left (List.ne_nil_of_length_eq_add_one hlen)
  have hbefore : before.length = 81 := by simpa using hlen
  rw [samples_eq_alternatingRuns] at hins
  have hwhole := ticksTo_complete (finished := a :: before) (State.sampled_start hphase hicnt) (by simp [hbefore])
    hruns hins
  rwa [Block.sampled, hbefore] at hwhole

/-- After 40 windows a line that stays at one level for 36000 samples (R156). -/
theorem ticksTo_stuck {a : Nat} {runs : List Nat} {level : Bool} (hphase : s.blk.phase = .ackWait)
    (hicnt : s.blk.icnt = 0) (hlen : runs.length = 80) (hpos : ∀ n ∈ runs, 1 ≤ n)
    (hins : ins.map Prod.fst = List.replicate a true ++ alternatingRuns false runs ++ List.replicate 36000 level) :
    TicksTo ins s Block.TimedOut := by
  have hstart := State.sampled_start hphase hicnt
  cases level with
  | false =>
    refine ticksTo_runs_timedOut (finished := a :: runs) (n := 36000) hstart (by simp [hlen]) ?_
      ⟨36000, by simp, le_rfl⟩ ?_
    · rw [List.cons_append, List.tail_cons, List.forall_mem_append, List.forall_mem_singleton]
      exact ⟨hpos, by decide⟩
    · rw [alternatingRuns_concat, hins, List.length_cons, runLevel_add_two, hlen]
      rfl
  | true =>
    obtain ⟨before, n, rfl⟩ := (List.eq_nil_or_concat' runs).resolve_left (List.ne_nil_of_length_eq_add_one hlen)
    have hbefore : before.length = 79 := by simpa using hlen
    rw [List.forall_mem_append, List.forall_mem_singleton] at hpos
    obtain ⟨hpos, hn⟩ := hpos
    refine ticksTo_runs_timedOut (finished := a :: before) (n := n + 36000) hstart (by simp [hbefore]) ?_
      ⟨n + 36000, by simp, by omega⟩ ?_
    · rw [List.cons_append, List.tail_cons, List.forall_mem_append, List.forall_mem_singleton]
      exact ⟨hpos, by omega⟩
    · rw [alternatingRuns_concat_add, hins, List.length_cons, runLevel_add_two, hbefore]
      rfl

end

/-! ### The statements -/

/-- Settles O30: run by run, the counts stand in the buffer; one sample more at the ceiling ends the transaction. -/
theorem samplerRecordsRunLengths : Obligations.SamplerRecordsRunLengths := by
  unfold Obligations.SamplerRecordsRunLengths
  refine ⟨fun s t ins hphase hicnt hclear hrange hins => ⟨?_, ?_⟩,
    fun s a runs ins hphase hicnt hclear ha hlen hruns hins => ?_, fun s ins hphase hicnt hins => ?_⟩
  · obtain ⟨a, runs⟩ := t
    rw [← List.length_map (f := Prod.fst), hins, samples_eq_alternatingRuns, List.length_append,
      length_alternatingRuns, List.sum_cons, List.length_singleton]
  · have htrain := ticksTo_train hphase hicnt hrange hins
    rwa [hclear, recordRuns_clear] at htrain
  · have hrange : RunsInRange (a :: runs ++ [35999]) := by
      rw [List.cons_append, runsInRange_cons, List.forall_mem_append, List.forall_mem_singleton]
      exact ⟨ha, hruns, by decide⟩
    have hins' : ins.map Prod.fst = alternatingRuns true (a :: runs ++ [36000]) := by
      rw [alternatingRuns_concat, hins, List.length_cons, runLevel_add_two]
      rfl
    have hended := ticksTo_ceiling (finished := a :: runs) (State.sampled_start hphase hicnt) hlen hrange hins'
    rwa [Block.sampled, hclear, recordRuns_clear] at hended
  · have hins' : ins.map Prod.fst = alternatingRuns true ([] ++ [36000]) := by
      rw [hins, alternatingRuns_concat]
      rfl
    exact ticksTo_ceiling (State.sampled_start hphase hicnt) (by simp) (by simp [RunsInRange]) hins'

/-- Settles O31: every tick keeps `Block.Progress`; conversely a train in range is sampled run by run, and a run of
36000 samples ends in `TIMEOUT` unless an earlier one did. -/
theorem onlyCompleteTrainsReachThreshold : Obligations.OnlyCompleteTrainsReachThreshold := by
  unfold Obligations.OnlyCompleteTrainsReachThreshold
  refine ⟨fun s ins hphase hicnt => ⟨?_, ?_⟩, fun s a runs level ins hphase hicnt hlen hpos hins => ?_⟩
  · rintro ⟨u, hu, hthreshold⟩
    exact ((Block.progress_start hphase hicnt).after_ticks hu).complete_of_threshold hthreshold
  · rintro ⟨t, hrange, hins⟩
    obtain ⟨u, hu, -, hblk⟩ := ticksTo_train hphase hicnt hrange hins
    exact ⟨u, hu, by rw [hblk]⟩
  · obtain ⟨u, hu, -, hidle, herr, hdone, hbusy⟩ := ticksTo_stuck hphase hicnt hlen hpos hins
    exact ⟨u, hu, herr, hdone, hbusy, hidle⟩

end Sys2Proof.Machine
end

section
/-! PROOFS. Threshold and reconstruction (43_threshold_reconstruct.md R170, R171, R173, R174): the sum is bounded
window by window, so it fits `SUM` and its mean fits `THRESH`; the bytes of the frame are packed one bit at a
time, so each bit is found by induction on the bits shifted in after it. -/

namespace Sys2Proof.Machine

/-! ### The threshold sum -/

/-- The sum of R170 as the obligations write it. -/
theorem Block.lowSum_eq (ackInSum : Bool) (b : Block) :
    b.lowSum ackInSum = (Finset.range 40).sum (fun j => (b.countAt (2 * (j + 1))).toNat)
      + (if ackInSum = true then (b.countAt 0).toNat else 0) := rfl

section
variable {b : Block} {c : Nat}

/-- Counts of at most `c` sum to at most `c` for each window in the sum. -/
theorem Block.lowSum_le (ackInSum : Bool) (hcounts : ∀ i, i ≤ 81 → (b.countAt i).toNat ≤ c) :
    b.lowSum ackInSum ≤ (40 + ackInSum.toNat) * c := by
  have hdata : (Finset.range 40).sum (fun j => (b.countAt (2 * (j + 1))).toNat) ≤ 40 * c :=
    Finset.sum_le_card_nsmul (Finset.range 40) _ c fun j hj => hcounts _ (by rw [Finset.mem_range] at hj; omega)
  have hack : (if ackInSum = true then (b.countAt 0).toNat else 0) ≤ ackInSum.toNat * c := by
    cases ackInSum with
    | false => simp
    | true => simpa using hcounts 0 (by decide)
  rw [Block.lowSum_eq, Nat.add_mul]
  exact Nat.add_le_add hdata hack

/-- Counts of at least `c` sum to at least `c` for each window in the sum. -/
theorem Block.le_lowSum (ackInSum : Bool) (hcounts : ∀ i, i ≤ 81 → c ≤ (b.countAt i).toNat) :
    (40 + ackInSum.toNat) * c ≤ b.lowSum ackInSum := by
  have hdata : 40 * c ≤ (Finset.range 40).sum (fun j => (b.countAt (2 * (j + 1))).toNat) :=
    Finset.card_nsmul_le_sum (Finset.range 40) _ c fun j hj => hcounts _ (by rw [Finset.mem_range] at hj; omega)
  have hack : ackInSum.toNat * c ≤ (if ackInSum = true then (b.countAt 0).toNat else 0) := by
    cases ackInSum with
    | false => simp
    | true => simpa using hcounts 0 (by decide)
  rw [Block.lowSum_eq, Nat.add_mul]
  exact Nat.add_le_add hdata hack

end

/-! ### `THRESHOLD` -/

/-- The block after `THRESHOLD` (R170). -/
def Block.thresholded (ackInSum : Bool) (b : Block) : Block :=
  { b with
    sum := BitVec.ofNat 21 (b.lowSum ackInSum)
    thresh := BitVec.ofNat 16 (b.lowSum ackInSum / 40)
    phase := .reconstruct }

theorem exec_threshold (s : State) :
    exec .threshold s = .next { s with blk := s.blk.thresholded s.params.ackInSum } := rfl

section
variable {b : Block} (ackInSum : Bool) (hcounts : ∀ i, i ≤ 81 → (b.countAt i).toNat ≤ 35999)
include hcounts

/-- `SUM` holds the sum: it does not wrap (R171). -/
theorem Block.thresholded_sum : (b.thresholded ackInSum).sum.toNat = b.lowSum ackInSum := by
  have hle := Block.lowSum_le ackInSum hcounts
  have hone := Bool.toNat_le ackInSum
  exact (BitVec.toNat_ofNat _ _).trans (Nat.mod_eq_of_lt (by omega))

/-- `THRESH` holds the floored mean: it does not wrap (R171, R172). -/
theorem Block.thresholded_thresh : (b.thresholded ackInSum).thresh.toNat = b.lowSum ackInSum / 40 := by
  have hle := Block.lowSum_le ackInSum hcounts
  have hone := Bool.toNat_le ackInSum
  exact (BitVec.toNat_ofNat _ _).trans (Nat.mod_eq_of_lt (by omega))

end

/-! ### Packing a byte -/

/-- The byte after the first `n` bits have been shifted in (R64). -/
def packFirst (bit : Nat → Bool) (n : Nat) : Byte :=
  (List.range n).foldl (fun acc m => acc <<< 1 ||| BitVec.setWidth 8 (BitVec.ofBool (bit m))) 0

theorem packByte_eq_packFirst (bit : Nat → Bool) : packByte bit = packFirst bit 8 := rfl

theorem packFirst_succ (bit : Nat → Bool) (n : Nat) :
    packFirst bit (n + 1) = packFirst bit n <<< 1 ||| BitVec.setWidth 8 (BitVec.ofBool (bit n)) := by
  rw [packFirst, List.range_succ, List.foldl_append]
  rfl

/-- Bit `m` stands at position `i` once `i` bits have been shifted in after it. -/
theorem getLsbD_packFirst (bit : Nat → Bool) (m : Nat) {i : Nat} (h : i < 8) :
    (packFirst bit (m + 1 + i)).getLsbD i = bit m := by
  induction i with
  | zero => simp [packFirst_succ]
  | succ i ih =>
    have hlt : i < 8 := by omega
    rw [← ih hlt, ← Nat.add_assoc, packFirst_succ]
    simp [h, hlt]

/-- The first bit is the most significant (R64). -/
theorem getLsbD_packByte (bit : Nat → Bool) {m : Nat} (h : m < 8) : (packByte bit).getLsbD (7 - m) = bit m := by
  have hpacked := getLsbD_packFirst bit m (i := 7 - m) (by omega)
  rwa [show m + 1 + (7 - m) = 8 by omega, ← packByte_eq_packFirst] at hpacked

/-! ### `RECONSTRUCT` -/

/-- The frame of R173. -/
def Block.decodedFrame (b : Block) : Vector Byte 5 := Vector.ofFn fun j => b.decodedByte j

theorem exec_reconstruct (s : State) :
    exec .reconstruct s =
      .next (s.onBlock fun b => { b with frame := b.decodedFrame, phase := .validate }) := rfl

/-- Frame bit `k` is bit `7 - k mod 8` of byte `k div 8` (R82, R173). -/
theorem Block.decodedFrame_bit (b : Block) {k : Nat} (h : k < 40) :
    (b.decodedFrame[k / 8]?).map (fun f => f.getLsbD (7 - k % 8)) = some (b.frameBit k) := by
  have hbyte : b.decodedFrame[k / 8]? = some (b.decodedByte (k / 8)) := by
    simp [Block.decodedFrame, show k / 8 < 5 by omega]
  rw [hbyte, Option.map_some, Block.decodedByte, getLsbD_packByte _ (by omega), Nat.div_add_mod]

/-- Frame bit `k` compares the high count of window `k + 2` with the threshold (R173, R174). -/
theorem Block.frameBit_eq (b : Block) (k : Nat) :
    b.frameBit k = decide (b.thresh.toNat ≤ (b.countAt (2 * k + 3)).toNat) := rfl

/-! ### The statements -/

/-- Settles O33: the operation writes the sum and its mean, and neither wraps. -/
theorem thresholdIsTheFlooredMean : Obligations.ThresholdIsTheFlooredMean := by
  unfold Obligations.ThresholdIsTheFlooredMean
  refine ⟨rfl, rfl, fun s => ⟨_, exec_threshold s, rfl, fun hcounts => ?_⟩⟩
  have hsum := Block.thresholded_sum s.params.ackInSum hcounts
  refine ⟨hsum.trans (Block.lowSum_eq _ _), ?_⟩
  exact (Block.thresholded_thresh _ hcounts).trans (congrArg (· / 40) hsum.symm)

/-- Settles O34: the sum lies between the least and the largest count times the number of windows in it. -/
theorem thresholdStaysInRange : Obligations.ThresholdStaysInRange := by
  unfold Obligations.ThresholdStaysInRange
  refine fun s hcounts => ⟨_, exec_threshold s, ?_⟩
  have hmost := fun i hi => (hcounts i hi).2
  have hlower := Block.le_lowSum s.params.ackInSum fun i hi => (hcounts i hi).1
  have hupper := Block.lowSum_le s.params.ackInSum hmost
  rw [Block.thresholded_sum _ hmost, Block.thresholded_thresh _ hmost]
  refine ⟨fun hack => ?_, fun hack => ?_⟩
  · have hwindow : s.params.ackInSum.toNat = 0 := congrArg Bool.toNat hack
    omega
  · have hwindow : s.params.ackInSum.toNat = 1 := congrArg Bool.toNat hack
    omega

/-- Settles O35: bit by bit, by the position at which a bit is packed. -/
theorem reconstructPacksBitsMsbFirst : Obligations.ReconstructPacksBitsMsbFirst := by
  unfold Obligations.ReconstructPacksBitsMsbFirst
  refine ⟨rfl, rfl, fun s => ⟨_, exec_reconstruct s, rfl, fun k hk => ?_⟩⟩
  exact (s.blk.decodedFrame_bit hk).trans (congrArg some (s.blk.frameBit_eq k))

end Sys2Proof.Machine
end

section
/-! PROOFS. Validation and conversion (44_validate_convert.md R190, R192, R195, R197). A train is decoded from the
counts it leaves in the buffer: they are the run lengths, so the threshold and every frame bit are those of the
train's own runs, and the bits determine the frame. -/

namespace Sys2Proof.Machine

/-! ### What an operation and a tick leave alone -/

section
variable {s t : State}

/-- `t` differs from `s` at most in the block and the pad's claim. -/
def State.AgreesOutsideBlockAndClaim (s t : State) : Prop := t = { s with blk := t.blk, padClaim := t.padClaim }

theorem timedWait_frame {n : Nat} {onEnd : Block → Block} (h : timedWait n onEnd s = .next t) :
    s.AgreesOutsideBlockAndClaim t := by
  cases (timedWait_eq n onEnd s).symm.trans h
  rfl

theorem countSample_frame (h : countSample s = .next t) : s.AgreesOutsideBlockAndClaim t := by
  by_cases hidx : s.blk.idx.toNat ≤ 81
  · cases (countSample_eq s hidx).symm.trans h
    rfl
  · cases (countSample_beyond s (not_le.mp hidx)).symm.trans h

theorem openNextCount_frame {q : Phase} (h : openNextCount q s = .next t) : s.AgreesOutsideBlockAndClaim t := by
  by_cases hidx : s.blk.idx.toNat + 1 ≤ 81
  · cases (openNextCount_eq q s hidx).symm.trans h
    rfl
  · cases (openNextCount_beyond q s (not_le.mp hidx)).symm.trans h

/-- An operation writes the block and the pad's claim, and nothing else (R5, R7). -/
theorem exec_frame {i : Instr} (h : exec i s = .next t) : s.AgreesOutsideBlockAndClaim t := by
  cases i with
  | wakeHigh => exact timedWait_frame ((exec_wakeHigh s).symm.trans h)
  | wakeLow => exact timedWait_frame ((exec_wakeLow s).symm.trans h)
  | settle => exact timedWait_frame ((exec_settle s).symm.trans h)
  | read | claimOut | claimIn | validate =>
    change (if _ then _ else _) = _ at h
    split at h <;> cases h <;> rfl
  | ackWait =>
    simp only [exec, execAckWait] at h
    split at h
    · split at h <;> cases h <;> rfl
    · cases h
      rfl
  | sampleLow =>
    simp only [exec, execSampleLow] at h
    split at h
    · exact openNextCount_frame h
    · exact countSample_frame h
  | sampleHigh =>
    simp only [exec, execSampleHigh] at h
    split at h
    · exact countSample_frame h
    · split at h
      · cases h
        rfl
      · exact openNextCount_frame h
  | idle | lineReset | releaseOut | threshold | reconstruct | convert | finish | padNone | padRelease | padClaimOut
  | padClaimIn =>
    cases h
    rfl

theorem State.AgreesOutsideBlockAndClaim.params_eq (h : s.AgreesOutsideBlockAndClaim t) : t.params = s.params := by
  rw [h]

/-- No tick writes the parameters (R5). -/
theorem tick_params {d f : Bool} (h : tick d f s = .next t) : t.params = s.params := by
  obtain ⟨u, hpad, hop⟩ := andThen_eq_next h
  exact (exec_frame hop).params_eq.trans (exec_frame hpad).params_eq

theorem ticks_params {ins : List (Bool × Bool)} (h : ticks ins s = .next t) : t.params = s.params := by
  induction ins generalizing s with
  | nil => cases h; rfl
  | cons i rest ih =>
    obtain ⟨u, hu, hrest⟩ := andThen_eq_next h
    exact (ih hrest).trans (tick_params hu)

/-- The first `n` ticks, then the rest. -/
theorem ticks_of_take_drop {u : State} {ins : List (Bool × Bool)} (n : Nat) (hfirst : ticks (ins.take n) s = .next u)
    (hrest : ticks (ins.drop n) u = .next t) : ticks ins s = .next t := by
  rw [← List.take_append_drop n ins, ticks_append, hfirst, andThen_next, hrest]

/-- Ticks keep the invariant (R36). -/
theorem ticks_inv {ins : List (Bool × Bool)} (hinv : s.Inv) (h : ticks ins s = .next t) : t.Inv := by
  induction ins generalizing s with
  | nil => cases h; exact hinv
  | cons i rest ih =>
    obtain ⟨u, hu, hrest⟩ := andThen_eq_next h
    obtain ⟨v, hv, hinv'⟩ := tick_inv i.1 i.2 hinv
    cases hu.symm.trans hv
    exact ih hinv' hrest

end

/-! ### The operands in numbers -/

section
variable (b : Block)

/-- The comparison of R190 in numbers. -/
theorem Block.checksumMatches_iff : b.checksumMatches = true ↔
    b.frame[4].toNat = (b.frame[0].toNat + b.frame[1].toNat + b.frame[2].toNat + b.frame[3].toNat) % 256 := by
  have hsum : b.checksum.toNat =
      (b.frame[0].toNat + b.frame[1].toNat + b.frame[2].toNat + b.frame[3].toNat) % 256 := by
    simp only [Block.checksum, BitVec.toNat_add]
    omega
  rw [Block.checksumMatches, beq_iff_eq, ← BitVec.toNat_inj, hsum]

/-- Humidity (R65, R83). -/
theorem Block.humidity_toNat : b.humidity.toNat = b.frame[0].toNat * 256 + b.frame[1].toNat := by
  rw [Block.humidity, toNat_append_eq_add]
  omega

/-- The sign bit (R84). -/
theorem Block.tempSign_iff : b.tempSign = true ↔ 128 ≤ b.frame[2].toNat := by
  have hmsb : b.tempSign = b.frame[2].msb := (BitVec.msb_eq_getLsbD_last _).symm
  rw [hmsb, BitVec.msb_eq_decide, decide_eq_true_iff]

/-- The magnitude (R84). -/
theorem Block.tempMagnitude_toNat :
    b.tempMagnitude.toNat = (b.frame[2].toNat % 128) * 256 + b.frame[3].toNat := by
  rw [Block.tempMagnitude, toNat_append_eq_add, BitVec.extractLsb'_toNat, Nat.shiftRight_zero]
  omega

/-- Two's complement of sign and magnitude (R192). -/
theorem Block.tempTwosComplement_toNat : b.tempTwosComplement.toNat =
    if b.tempSign = true then (0x10000 - b.tempMagnitude.toNat) % 0x10000 else b.tempMagnitude.toNat := by
  have hmag := b.tempMagnitude.isLt
  rw [Block.tempTwosComplement]
  split <;> bv_omega

/-- A magnitude of 15 bits never gives the most negative number. -/
theorem Block.tempTwosComplement_ne_min : b.tempTwosComplement ≠ 0x8000 := by
  intro hmin
  have hmag := b.tempMagnitude.isLt
  have hvalue := b.tempTwosComplement_toNat
  rw [hmin, show (0x8000 : BitVec 16).toNat = 0x8000 from rfl] at hvalue
  split at hvalue <;> omega

end

/-! ### The operations -/

section
variable {s : State}

theorem exec_validate_match (h : s.blk.checksumMatches = true) :
    exec .validate s = .next (s.onBlock fun b => { b with phase := .convert }) := if_pos h

theorem exec_validate_mismatch (h : ¬ s.blk.checksumMatches = true) :
    exec .validate s = .next (s.onBlock (Block.abort .checksumFail)) := if_neg h

theorem exec_convert (s : State) :
    exec .convert s = .next (s.onBlock fun b =>
      { b with
        humX10 := b.humidity, tempNeg := b.tempSign, tempMag := b.tempMagnitude
        tempX10 := b.tempTwosComplement, phase := .finish }) := rfl

theorem exec_finish (s : State) :
    exec .finish s = .next (s.onBlock fun b =>
      { b with claim := .none, err := .ok, busy := false, done := true, phase := .idle }) := rfl

end

/-! ### The buffer holds a train -/

/-- The counts of `b` are the run lengths `runs`. -/
def Block.Holds (b : Block) (runs : List Nat) : Prop :=
  ∀ i, i ≤ 81 → (b.countAt i).toNat = runs[i]?.getD 0

/-- What a train in range leaves in the buffer (R157). -/
theorem Block.holds_of_recordRuns {b : Block} {v : Vector Count 82} {t : PulseTrain} (hrange : PulseTrainInRange t)
    (hpulse : b.pulse = recordRuns v t.runs) : b.Holds t.runs := by
  intro i hi
  obtain ⟨hwf, -, hruns⟩ := hrange
  have hlen : i < t.runs.length := by
    simp only [PulseTrain.wellFormed, Bool.and_eq_true, decide_eq_true_eq] at hwf
    omega
  rw [countAt_eq_getElem b (by omega), hpulse]
  simpa [recordRuns, hlen] using toNat_count_of_le (hruns _ (List.getElem_mem hlen))

/-- The threshold of a train's own low counts (R170, R197). -/
def runsThreshold (ackInSum : Bool) (runs : List Nat) : Nat :=
  ((Finset.range 40).sum (fun j => runs[2 * (j + 1)]?.getD 0)
    + (if ackInSum = true then runs[2 * 0]?.getD 0 else 0)) / 40

section
variable {b : Block} {runs : List Nat} (ackInSum : Bool) (hholds : b.Holds runs)
include hholds

theorem Block.Holds.lowSum_div_eq : b.lowSum ackInSum / 40 = runsThreshold ackInSum runs := by
  have hdata : (Finset.range 40).sum (fun j => (b.countAt (2 * (j + 1))).toNat) =
      (Finset.range 40).sum (fun j => runs[2 * (j + 1)]?.getD 0) :=
    Finset.sum_congr rfl fun j hj => hholds _ (by rw [Finset.mem_range] at hj; omega)
  rw [Block.lowSum_eq, hdata, hholds 0 (by decide), runsThreshold]

/-- A frame bit decoded after `THRESHOLD` compares a high count of the train with the train's threshold (R173, R174). -/
theorem Block.Holds.frameBit_thresholded (hcounts : ∀ n ∈ runs, n ≤ 35999) {k : Nat} (hk : k < 40) :
    (b.thresholded ackInSum).frameBit k = decide (runsThreshold ackInSum runs ≤ runs[2 * k + 3]?.getD 0) := by
  have hle : ∀ i, i ≤ 81 → (b.countAt i).toNat ≤ 35999 := fun i hi => by
    rw [hholds i hi]
    cases hrun : runs[i]? with
    | none => exact Nat.zero_le _
    | some n => exact hcounts n (List.mem_of_getElem? hrun)
  have hhigh : (b.thresholded ackInSum).countAt (2 * k + 3) = b.countAt (2 * k + 3) := countAt_of_pulse_eq rfl _
  rw [Block.frameBit_eq, Block.thresholded_thresh ackInSum hle, hholds.lowSum_div_eq, hhigh, hholds _ (by omega)]

end

/-- The forty bits in transmission order determine the frame (R64, R82). -/
theorem frame_ext {v w : Vector Byte 5}
    (h : ∀ k, k < 40 → (v[k / 8]?).map (fun f => f.getLsbD (7 - k % 8)) =
      (w[k / 8]?).map (fun f => f.getLsbD (7 - k % 8))) : v = w := by
  refine Vector.ext fun j hj => BitVec.eq_of_getLsbD_eq fun i hi => ?_
  have hbyte : (8 * j + (7 - i)) / 8 = j := by omega
  have hbit : 7 - (8 * j + (7 - i)) % 8 = i := by omega
  have hsame := h (8 * j + (7 - i)) (by omega)
  rw [hbyte, hbit] at hsame
  simpa [hj] using hsame

/-! ### The ticks after a train -/

section
variable {s : State} (d f : Bool) (hphase : s.blk.phase = .validate)
include hphase

theorem tick_validate_match (h : s.blk.checksumMatches = true) :
    tick d f s = .next ((s.withPins d f).onBlock fun b => { b with phase := .convert }) := by
  rw [tick_of_padNone d f (by rw [hphase]; rfl), hphase]
  exact exec_validate_match (s := s.withPins d f) h

theorem tick_validate_mismatch (h : ¬ s.blk.checksumMatches = true) :
    tick d f s = .next ((s.withPins d f).onBlock (Block.abort .checksumFail)) := by
  rw [tick_of_padNone d f (by rw [hphase]; rfl), hphase]
  exact exec_validate_mismatch (s := s.withPins d f) h

end

/-- The block after `THRESHOLD` and `RECONSTRUCT` (R170, R173). -/
def Block.decoded (ackInSum : Bool) (b : Block) : Block :=
  { b.thresholded ackInSum with frame := (b.thresholded ackInSum).decodedFrame, phase := .validate }

/-- The block after `CONVERT` and `FINISH` (R192, R195). -/
def Block.delivered (b : Block) : Block :=
  { b with
    humX10 := b.humidity, tempNeg := b.tempSign, tempMag := b.tempMagnitude, tempX10 := b.tempTwosComplement
    claim := .none, err := .ok, busy := false, done := true, phase := .idle }

section
variable {s : State} {ins : List (Bool × Bool)}

theorem ticks_threshold_reconstruct (hphase : s.blk.phase = .threshold) (hlen : ins.length = 2) :
    ∃ u, ticks ins s = .next u ∧ u.blk = s.blk.decoded s.params.ackInSum := by
  obtain ⟨⟨d, f⟩, ⟨d', f'⟩, rfl⟩ := List.length_eq_two.mp hlen
  rw [ticks, (tick_threshold d f hphase).trans (exec_threshold _), andThen_next, ticks,
    (tick_reconstruct d' f' rfl).trans (exec_reconstruct _), andThen_next]
  exact ⟨_, rfl, rfl⟩

theorem ticks_validate_convert_finish (hphase : s.blk.phase = .validate) (hmatch : s.blk.checksumMatches = true)
    (hlen : ins.length = 3) : ∃ u, ticks ins s = .next u ∧ u.blk = s.blk.delivered := by
  obtain ⟨⟨d, f⟩, ⟨d', f'⟩, ⟨d'', f''⟩, rfl⟩ := List.length_eq_three.mp hlen
  rw [ticks, tick_validate_match d f hphase hmatch, andThen_next, ticks,
    (tick_convert d' f' rfl).trans (exec_convert _), andThen_next, ticks,
    tick_finish d'' f'' rfl, andThen_next]
  exact ⟨_, rfl, rfl⟩

theorem ticks_validate_abort (hphase : s.blk.phase = .validate) (hmatch : ¬ s.blk.checksumMatches = true)
    (hlen : ins.length = 1) : ∃ u, ticks ins s = .next u ∧ u.blk = s.blk.abort .checksumFail := by
  obtain ⟨⟨d, f⟩, rfl⟩ := List.length_eq_one_iff.mp hlen
  rw [ticks, tick_validate_mismatch d f hphase hmatch, andThen_next]
  exact ⟨_, rfl, rfl⟩

section
variable {b : Block} {b0 b1 b2 b3 b4 : Byte} (hframe : b.frame = #v[b0, b1, b2, b3, b4])
include hframe

theorem Block.checksumMatches_iff_of_frame :
    b.checksumMatches = true ↔ b4.toNat = (b0.toNat + b1.toNat + b2.toNat + b3.toNat) % 256 := by
  rw [Block.checksumMatches_iff, hframe]
  rfl

/-- The values that five bytes deliver (R83, R84, R192). -/
theorem Block.delivered_of_frame :
    b.delivered.humX10.toNat = b0.toNat * 256 + b1.toNat ∧ b.delivered.tempNeg = b2.getLsbD 7 ∧
      b.delivered.tempMag.toNat = (b2.toNat % 128) * 256 + b3.toNat := by
  have hhum := b.humidity_toNat
  have hmag := b.tempMagnitude_toNat
  have hsign : b.tempSign = b.frame[2].getLsbD 7 := rfl
  rw [hframe] at hhum hmag hsign
  exact ⟨hhum, hsign, hmag⟩

end

/-- After the abort of `VALIDATE` the line is still claimed and no result shows (R190, R216). -/
theorem State.Inv.after_checksumFail (hinv : s.Inv) {b : Block} (hblk : s.blk = b.abort .checksumFail) :
    s.blk.claim = .inp ∧ s.blk.readReg 2 = 0 ∧ s.blk.readReg 3 = 0 := by
  have herr : s.blk.err = .checksumFail := by rw [hblk, Block.abort_err]
  have hclaim := hinv.block_ok.claim_after_end (by rw [hblk, Block.abort_done])
  rw [herr] at hclaim
  exact ⟨hclaim, hinv.block_ok.error_means_zero (by simp [herr])⟩

/-- The train and two more ticks: the block stands in `VALIDATE` with the frame that the train's runs encode (R197). -/
theorem ticks_train_decoded {t : PulseTrain} {bytes : Vector Byte 5} (hphase : s.blk.phase = .ackWait)
    (hicnt : s.blk.icnt = 0) (hrange : PulseTrainInRange t)
    (hbytes : ∀ k, k < 40 → (bytes[k / 8]?).map (fun f => f.getLsbD (7 - k % 8)) =
      some (decide (runsThreshold s.params.ackInSum t.runs ≤ t.runs[2 * k + 3]?.getD 0)))
    (hlen : ins.length = t.samples.length + 2) (hins : (ins.take t.samples.length).map Prod.fst = t.samples) :
    ∃ u, ticks ins s = .next u ∧ u.blk.phase = .validate ∧ u.blk.frame = bytes := by
  obtain ⟨v, hv, -, hblk⟩ := ticksTo_train hphase hicnt hrange hins
  have hholds : v.blk.Holds t.runs := Block.holds_of_recordRuns hrange (by rw [hblk])
  obtain ⟨u, hu, hdecoded⟩ := ticks_threshold_reconstruct (s := v) (ins := ins.drop t.samples.length)
    (by rw [hblk]) (by rw [List.length_drop]; omega)
  refine ⟨u, ticks_of_take_drop _ hv hu, by rw [hdecoded]; rfl, ?_⟩
  rw [hdecoded, ticks_params hv]
  obtain ⟨-, -, hcounts⟩ := hrange
  refine frame_ext fun k hk => ?_
  rw [hbytes k hk, ← hholds.frameBit_thresholded _ hcounts hk]
  exact Block.decodedFrame_bit _ hk

end

/-! ### The statements -/

/-- Settles O41: two ticks after the train the frame is the five bytes; whether the fifth matches decides how many
ticks are left. -/
theorem encodedFrameRoundTrips : Obligations.EncodedFrameRoundTrips := by
  unfold Obligations.EncodedFrameRoundTrips
  intro s t b0 b1 b2 b3 b4 ins hinv hphase hicnt hrange hbytes
  have hdecoded (hlen : t.samples.length + 2 ≤ ins.length)
      (hins : (ins.take t.samples.length).map Prod.fst = t.samples) :
      ∃ v, ticks (ins.take (t.samples.length + 2)) s = .next v ∧ v.blk.phase = .validate ∧
        v.blk.frame = #v[b0, b1, b2, b3, b4] :=
    ticks_train_decoded hphase hicnt hrange hbytes (List.length_take_of_le hlen)
      (by rwa [List.take_take, Nat.min_eq_left (Nat.le_add_right _ 2)])
  refine ⟨fun hsum hlen hins => ?_, fun hsum hlen hins => ?_⟩
  · obtain ⟨v, hv, hvalidate, hframe⟩ := hdecoded (by omega) hins
    have hmatch := (Block.checksumMatches_iff_of_frame hframe).mpr hsum
    obtain ⟨u, hu, hblk⟩ := ticks_validate_convert_finish (ins := ins.drop (t.samples.length + 2)) hvalidate hmatch
      (by rw [List.length_drop]; omega)
    refine ⟨u, ticks_of_take_drop _ hv hu, ?_⟩
    rw [hblk]
    exact ⟨rfl, rfl, rfl, rfl, Block.delivered_of_frame hframe⟩
  · obtain ⟨v, hv, hvalidate, hframe⟩ := hdecoded (by omega) hins
    have hmismatch := mt (Block.checksumMatches_iff_of_frame hframe).mp hsum
    obtain ⟨u, hu, hblk⟩ := ticks_validate_abort (ins := ins.drop (t.samples.length + 2)) hvalidate hmismatch
      (by rw [List.length_drop]; omega)
    have hwhole : ticks ins s = .next u := ticks_of_take_drop _ hv hu
    have hafter := (ticks_inv hinv hwhole).after_checksumFail hblk
    refine ⟨u, hwhole, ?_, ?_, ?_, hafter⟩ <;> rw [hblk] <;> rfl

/-- Settles O37: the comparison in numbers; nothing is converted yet, and the line is still claimed (R36 j). -/
theorem validateComparesTheChecksum : Obligations.ValidateComparesTheChecksum := by
  unfold Obligations.ValidateComparesTheChecksum
  refine ⟨rfl, rfl, fun s => ⟨fun hsum => ?_, fun hsum => ?_, fun hinv hphase => ?_⟩⟩
  · exact exec_validate_match (s.blk.checksumMatches_iff.mpr hsum)
  · exact exec_validate_mismatch (mt s.blk.checksumMatches_iff.mp hsum)
  · have hbusy := hinv.block_ok.busy_iff_active.mpr (by simp [hphase])
    obtain ⟨hhum, htemp⟩ := hinv.block_ok.results_read_zero (.inl ⟨hbusy, by simp [hphase]⟩)
    exact ⟨hhum, htemp, hinv.block_ok.claim_in_phase .inp (by rw [hphase]; rfl)⟩

/-- Settles O38: each result field in numbers. -/
theorem convertDeliversTenths : Obligations.ConvertDeliversTenths := by
  unfold Obligations.ConvertDeliversTenths
  refine ⟨rfl, rfl, fun s => ⟨_, exec_convert s, rfl, s.blk.humidity_toNat, s.blk.tempSign_iff,
    ⟨s.blk.tempMagnitude_toNat, ?_⟩, s.blk.tempTwosComplement_ne_min⟩⟩
  have hvalue := s.blk.tempTwosComplement_toNat
  simp only [s.blk.tempSign_iff, s.blk.tempMagnitude_toNat] at hvalue
  exact hvalue

/-- Settles O40: the operation reads nothing. -/
theorem finishReleasesAndReportsSuccess : Obligations.FinishReleasesAndReportsSuccess := by
  unfold Obligations.FinishReleasesAndReportsSuccess
  exact ⟨rfl, rfl, exec_finish⟩

end Sys2Proof.Machine
end

section
/-! PROOFS. Errors (60_exceptions.md R215, R216): the abort is a record update, and the invariant fixes the claim
that stands beside each error. -/

namespace Sys2Proof.Machine

/-! ### The line while an error stands -/

/-- No outcome leaves an output claim (R216, R32). -/
theorem ErrCode.claimLeft_ne_out (e : ErrCode) : e.claimLeft ≠ .out := by
  cases e <;> decide

section
variable {s : State}

/-- The line is driven only through an output claim of the pad (R137). -/
theorem State.lineDrive_of_padClaim_ne_out (h : s.padClaim ≠ .out) : s.lineDrive = none := by
  rw [State.lineDrive_eq, if_neg h]

/-- An error stands only after the end of its transaction, so block and pad hold the claim it left (R36 c, R216). -/
theorem State.Inv.claims_of_error (h : s.Inv) (herr : s.blk.err ≠ .ok) :
    s.blk.claim = s.blk.err.claimLeft ∧ s.padClaim = s.blk.err.claimLeft := by
  have hdone := h.block_ok.error_means_done herr
  have hclaim := h.block_ok.claim_after_end hdone
  exact ⟨hclaim, (h.pad_agrees.2 hdone).trans hclaim⟩

/-- The claim beside each error; `INVALID_ARGUMENT` never stands in `ERR` (R36 d). -/
theorem State.Inv.claims_by_error (h : s.Inv) (herr : s.blk.err ≠ .ok) :
    (s.blk.err = .timeout ∨ s.blk.err = .checksumFail) ∧ s.blk.claim = .inp ∧ s.padClaim = .inp ∨
      s.blk.err = .gpioClaimFail ∧ s.blk.claim = .none ∧ s.padClaim = .none := by
  have hrange := h.block_ok.error_in_range
  obtain ⟨hclaim, hpad⟩ := h.claims_of_error herr
  cases he : s.blk.err with
  | ok => exact absurd he herr
  | timeout => rw [he] at hclaim hpad; exact .inl ⟨.inl rfl, hclaim, hpad⟩
  | checksumFail => rw [he] at hclaim hpad; exact .inl ⟨.inr rfl, hclaim, hpad⟩
  | gpioClaimFail => rw [he] at hclaim hpad; exact .inr ⟨rfl, hclaim, hpad⟩
  | invalidArgument => rw [he] at hrange; exact absurd hrange (by decide)

/-- While an error stands the line is not driven (R216). -/
theorem State.Inv.lineDrive_of_error (h : s.Inv) (herr : s.blk.err ≠ .ok) : s.lineDrive = none :=
  State.lineDrive_of_padClaim_ne_out ((h.claims_of_error herr).2 ▸ s.blk.err.claimLeft_ne_out)

end

/-! ### The statements -/

/-- Settles O43: the tick keeps the invariant, which fixes the line wherever an error stands. -/
theorem lineAfterAnAbort : Obligations.LineAfterAnAbort := by
  unfold Obligations.LineAfterAnAbort
  intro s t din padFail hinv _ htick herr
  obtain ⟨u, hu, hafter⟩ := perform_inv (.tick din padFail) hinv
  cases hu.symm.trans htick
  exact ⟨hafter.claims_by_error herr, hafter.lineDrive_of_error herr⟩

/-- Settles O42: the abort is this record update. -/
theorem abortWritesOnlyTheOutcome : Obligations.AbortWritesOnlyTheOutcome := by
  unfold Obligations.AbortWritesOnlyTheOutcome
  exact raise_eq

end Sys2Proof.Machine
end

section
/-! PROOFS. `Reset()` (70_reset_and_hazards.md R240): the transition's equation and the pad command after it. -/

namespace Sys2Proof.Machine

/-- `Reset()` completes in every state, in mid-transaction too (R240). -/
theorem perform_reset (s : State) : perform .reset s = .next s.doReset := rfl

/-- The block is in `IDLE` after `Reset()`, where it presents `PAD_NONE` (R88, R240). -/
@[simp] theorem State.doReset_padCmd (s : State) : s.doReset.padCmd = 0 := by
  simp only [State.padCmd, State.doReset_blk, Block.reset_phase, Phase.padCmd]

/-- Settles O44: the next state is `doReset`, whose fields the laws of `State.doReset` give. -/
theorem resetClearsEveryElement : Obligations.ResetClearsEveryElement := by
  unfold Obligations.ResetClearsEveryElement
  refine ⟨fun s => ⟨s.doReset, perform_reset s, ?block, s.doReset_params, s.doReset_agenda, s.doReset_din,
    s.doReset_padFail, s.doReset_hostData, s.doReset_padCmd⟩, rfl⟩
  case block => rw [State.doReset_blk, Block.reset]

end Sys2Proof.Machine
end

section
/-! PROOFS. The step (00_scope.md R7, R71): each event of the agenda as one equation, the invariant kept and every
step answered, and the parameters (R5) left alone. -/

namespace Sys2Proof.Machine

section
variable {s t : State} {r : Transition} {rest : List Event}

/-! ### The event of a step -/

/-- The listed transition is performed with its event taken off (log 1). -/
theorem step_does (h : s.agenda = .does r :: rest) : step s = perform r { s with agenda := rest } := by
  rw [step, h]
  rfl

/-- With nothing listed the environment draws a transition (R10, log 2). -/
theorem step_free (h : s.agenda = []) :
    step s = perform (Config.freeTransition s.draws) { s with draws := s.draws + 1 } := by
  simp only [step, h, stepOn]

/-- A bus cycle without a meaning stops the step (R67). -/
theorem step_undefinedBusCycle (h : s.agenda = .undefinedBusCycle :: rest) :
    step s = .refused .undefinedBusCycle := by
  rw [step, h]
  rfl

/-- A step that answers has performed one transition, on a state that differs only in the model's own fields. -/
theorem step_eq_next (h : step s = .next t) :
    ∃ r rest n, perform r { s with agenda := rest, draws := n } = .next t := by
  cases hagenda : s.agenda with
  | nil => exact ⟨_, s.agenda, s.draws + 1, (step_free hagenda).symm.trans h⟩
  | cons e rest =>
    cases e with
    | does r => exact ⟨r, rest, s.draws, (step_does hagenda).symm.trans h⟩
    | undefinedBusCycle => cases (step_undefinedBusCycle hagenda).symm.trans h

/-- Every transition the environment may choose is answered where the invariant holds (R67 names the one event
that is none). -/
theorem State.Inv.step_answers (h : s.Inv) (hbus : ∀ rest, s.agenda ≠ .undefinedBusCycle :: rest) :
    ∃ t, step s = .next t := by
  cases hagenda : s.agenda with
  | nil =>
    have hdrawn : State.Inv { s with draws := s.draws + 1 } := ⟨h.params_ok, h.block_ok, h.pad_agrees⟩
    obtain ⟨t, ht, -⟩ := perform_inv (Config.freeTransition s.draws) hdrawn
    exact ⟨t, (step_free hagenda).trans ht⟩
  | cons e rest =>
    cases e with
    | does r =>
      have htaken : State.Inv { s with agenda := rest } := ⟨h.params_ok, h.block_ok, h.pad_agrees⟩
      obtain ⟨t, ht, -⟩ := perform_inv r htaken
      exact ⟨t, (step_does hagenda).trans ht⟩
    | undefinedBusCycle => exact absurd hagenda (hbus rest)

/-! ### Host writes and the parameters -/

/-- Between transactions the block stands in `IDLE` (R36 a). -/
theorem Block.MeetsR36.phase_of_not_busy {b : Block} (h : b.MeetsR36) (hbusy : b.busy = false) : b.phase = .idle :=
  not_not.mp fun hactive => Bool.eq_false_iff.mp hbusy (h.busy_iff_active.mpr hactive)

/-- A busy block takes no write (R111, R61). -/
theorem hostWrite_busy (n : Nat) (v : Word) (h : s.blk.busy = true) : perform (.hostWrite n v) s = .next s := by
  by_cases hread : n = 0 ∧ v = 1#32
  · obtain ⟨rfl, rfl⟩ := hread
    exact hostWrite_read_busy h
  · exact hostWrite_other hread

/-- A host write starts a transaction or changes nothing (R110, R61, R91). -/
theorem hostWrite_eq_next {n : Nat} {v : Word} (h : perform (.hostWrite n v) s = .next t) :
    t = s ∨ (n = 0 ∧ v = 1#32) ∧ t = s.onBlock Block.startTransaction := by
  by_cases hread : n = 0 ∧ v = 1#32
  · obtain ⟨rfl, rfl⟩ := hread
    cases hbusy : s.blk.busy with
    | true => exact .inl (Host.Outcome.next.inj (h.symm.trans (hostWrite_read_busy hbusy)))
    | false => exact .inr ⟨⟨rfl, rfl⟩, Host.Outcome.next.inj (h.symm.trans (hostWrite_read_idle hbusy))⟩
  · exact .inl (Host.Outcome.next.inj (h.symm.trans (hostWrite_other hread)))

/-- No transition writes the parameters (R5). -/
theorem perform_params (h : perform r s = .next t) : t.params = s.params := by
  cases r with
  | reset => cases h; rfl
  | hostWrite n v => rcases hostWrite_eq_next h with rfl | ⟨-, rfl⟩ <;> rfl
  | hostRead n => cases h; rfl
  | tick d f => exact tick_params h

end

/-! ### The statements -/

/-- Settles O53: the step lemma behind the reachable states. -/
theorem stepKeepsTheInvariant : Obligations.StepKeepsTheInvariant := by
  unfold Obligations.StepKeepsTheInvariant
  exact fun s t => step_inv

/-- Settles O56: by the step's event, listed or drawn. -/
theorem invariantStatesNeverStop : Obligations.InvariantStatesNeverStop := by
  unfold Obligations.InvariantStatesNeverStop
  exact fun s => State.Inv.step_answers

/-- Settles O54: the block is as `Reset()` leaves it, so nothing is claimed in `IDLE` and no transaction has ended. -/
theorem resetStateMeetsTheInvariant : Obligations.ResetStateMeetsTheInvariant := by
  unfold Obligations.ResetStateMeetsTheInvariant
  have hparams : State.reset.params.wellFormed = true := by decide
  exact (Reachable.afterReset State.reset hparams rfl).inv

/-- Settles O52: a step is one transition, and no transition writes them. -/
theorem parametersNeverChange : Obligations.ParametersNeverChange := by
  unfold Obligations.ParametersNeverChange
  intro s t h
  obtain ⟨r, rest, n, hr⟩ := step_eq_next h
  have hkept := perform_params hr
  exact hkept

/-- Settles O50: the write is dropped, the read reaches only the host's port. -/
theorem busyBlockIgnoresTheHost : Obligations.BusyBlockIgnoresTheHost := by
  unfold Obligations.BusyBlockIgnoresTheHost
  exact fun s n v hbusy => ⟨hostWrite_busy n v hbusy, perform_hostRead n s⟩

/-- Settles O51: without `BUSY` the block stands in `IDLE` (R36 a), where a tick changes only the pins. -/
theorem endedTransactionIsKept : Obligations.EndedTransactionIsKept := by
  unfold Obligations.EndedTransactionIsKept
  intro s t r hinv hbusy h
  cases r with
  | reset => exact .inr (.inl rfl)
  | hostWrite n v =>
    rcases hostWrite_eq_next h with rfl | ⟨⟨rfl, rfl⟩, -⟩
    · exact .inl rfl
    · exact .inr (.inr rfl)
  | hostRead n => cases h; exact .inl rfl
  | tick d f =>
    have hidle : s.blk.phase = .idle := hinv.block_ok.phase_of_not_busy hbusy
    cases (tick_idle d f hidle).symm.trans h
    exact .inl rfl

end Sys2Proof.Machine
end

section
/-! PROOFS. The timing of a transaction (41_line_control.md R142, 42_pulse_sampling.md R158, 60_exceptions.md R213,
70_reset_and_hazards.md R252). After `READ` the invariant holds, so every tick answers and the flags follow `PHASE`;
the fixed part is walked from milestone to milestone, and the milestones give every statement. -/

namespace Sys2Proof.Machine

/-! ### Ticks from a state that meets the invariant -/

section
variable {s t : State} {ins : List (Bool × Bool)}

theorem ticks_answer (hinv : s.Inv) (ins : List (Bool × Bool)) : ∃ u, ticks ins s = .next u ∧ u.Inv := by
  induction ins generalizing s with
  | nil => exact ⟨s, rfl, hinv⟩
  | cons i rest ih =>
    obtain ⟨u, hu, hinv'⟩ := tick_inv i.1 i.2 hinv
    obtain ⟨v, hv, hinv''⟩ := ih hinv'
    exact ⟨v, by rw [ticks, hu, andThen_next, hv], hinv''⟩

/-- The ticks up to the `n`th are those up to the `m`th and some more. -/
theorem ticks_take_of_le {u v : State} {m n : Nat} (hmn : m ≤ n) (hm : ticks (ins.take m) s = .next u)
    (hn : ticks (ins.take n) s = .next v) : ticks ((ins.take n).drop m) u = .next v := by
  rw [← List.take_append_drop m (ins.take n), List.take_take, Nat.min_eq_left hmn, ticks_append, hm,
    andThen_next] at hn
  exact hn

/-- Between transactions ticks change only the pins (R114). -/
theorem ticks_idle (hidle : s.blk.phase = .idle) (h : ticks ins s = .next t) : t.blk = s.blk := by
  induction ins generalizing s with
  | nil => cases h; rfl
  | cons i rest ih =>
    rw [ticks, tick_idle i.1 i.2 hidle, andThen_next] at h
    exact ih (s := s.withPins i.1 i.2) hidle h

/-- A transaction that runs after `n` ticks has run all the time before (R252: no earlier tick ends it). -/
theorem State.Inv.runs_before {v : State} {n : Nat} (hinv : s.Inv) (hn : ticks (ins.take n) s = .next v)
    (hrun : v.blk.phase ≠ .idle) {m : Nat} (hmn : m ≤ n) :
    ∃ u, ticks (ins.take m) s = .next u ∧ u.blk.done = false ∧ u.blk.busy = true := by
  obtain ⟨u, hu, hinv'⟩ := ticks_answer hinv (ins.take m)
  have hactive : u.blk.phase ≠ .idle := fun hidle => by
    have hkept := ticks_idle hidle (ticks_take_of_le hmn hu hn)
    exact hrun (by rw [hkept, hidle])
  obtain ⟨hbusy, hdone, -⟩ := hinv'.block_ok.flags_of_active hactive
  exact ⟨u, hu, hdone, hbusy⟩

/-- A tick that ends a transaction sets `DONE` (R195, R215). -/
theorem tick_ends_done {d f : Bool} (hactive : s.blk.phase ≠ .idle) (h : tick d f s = .next t)
    (hidle : t.blk.phase = .idle) : t.blk.done = true := by
  rcases tick_phase h with hnext | ⟨e, -, -, -, hdone⟩
  · have hfinish : s.blk.phase = .finish := by
      rw [hidle] at hnext
      revert hactive hnext
      cases s.blk.phase <;> simp [Phase.successors]
    cases (tick_finish d f hfinish).symm.trans h
    rfl
  · exact hdone

/-- A transaction found in `IDLE` after some ticks has ended. -/
theorem ticks_end_done (hstart : s.blk.phase = .idle → s.blk.done = true) (h : ticks ins s = .next t)
    (hidle : t.blk.phase = .idle) : t.blk.done = true := by
  induction ins generalizing s with
  | nil => cases h; exact hstart hidle
  | cons i rest ih =>
    obtain ⟨u, hu, hrest⟩ := andThen_eq_next h
    refine ih (fun hidle' => ?_) hrest
    by_cases hactive : s.blk.phase = .idle
    · cases (tick_idle i.1 i.2 hactive).symm.trans hu
      exact hstart hactive
    · exact tick_ends_done hactive hu hidle'

end

/-! ### The accepted `READ` -/

section
variable {s : State} {ins : List (Bool × Bool)}

/-- The state after an accepted `READ` (R110). -/
def State.started (s : State) : State := s.onBlock Block.startTransaction

/-- A transaction with `BUSY` = 0 is the ticks after the accepted `READ`. -/
theorem transaction_eq (hbusy : s.blk.busy = false) : transaction ins s = ticks ins s.started := by
  rw [transaction, hostWrite_read_idle hbusy, andThen_next, State.started]

theorem State.started_inv (hparams : s.params.wellFormed = true) : s.started.Inv :=
  ⟨hparams, Block.inv_startTransaction s.params s.blk, by simp [State.started, Phase.claimHeld], by simp [State.started]⟩

end

/-! ### Milestones -/

/-- After `n` ticks with the inputs `ins` the block is as `P` says. -/
def ReachesIn (ins : List (Bool × Bool)) (n : Nat) (s : State) (P : Block → Prop) : Prop :=
  ∃ u, ticks (ins.take n) s = .next u ∧ P u.blk

section
variable {s : State} {ins : List (Bool × Bool)} {n k : Nat} {P Q : Block → Prop} {c : Block}

/-- The next `k` ticks. -/
theorem ReachesIn.more (h : ReachesIn ins n s P)
    (hmore : ∀ u : State, u.params = s.params → P u.blk → ∃ v, ticks ((ins.drop n).take k) u = .next v ∧ Q v.blk) :
    ReachesIn ins (n + k) s Q := by
  obtain ⟨u, hu, hP⟩ := h
  obtain ⟨v, hv, hQ⟩ := hmore u (ticks_params hu) hP
  exact ⟨v, by rw [List.take_add, ticks_append, hu, andThen_next, hv], hQ⟩

theorem length_drop_take (hlen : n + k ≤ ins.length) : ((ins.drop n).take k).length = k := by
  rw [List.length_take, List.length_drop]
  omega

theorem getElem?_drop_take {i : Nat} (hi : i < k) : ((ins.drop n).take k)[i]? = ins[n + i]? := by
  rw [List.getElem?_take_of_lt hi, List.getElem?_drop]

section
variable {q : Phase} {onEnd : Block → Block} (hq : q.WaitsThen onEnd) (hparams : s.params.wellFormed = true)
  (h : ReachesIn ins n s (· = c)) (hphase : c.phase = q) (hentered : c.wcnt = 0)
include hq hparams h hphase hentered

/-- Some of the ticks of a fixed wait, or all (R31). -/
theorem ReachesIn.wait (hlen : n + k ≤ ins.length) (hk : k ≤ q.waitLength s.params) :
    ReachesIn ins (n + k) s
      (· = if k = q.waitLength s.params then onEnd c else { c with wcnt := BitVec.ofNat 32 k }) := by
  refine h.more fun u hu hblk => ?_
  have hticks := length_drop_take hlen
  obtain ⟨v, hv, hwait⟩ := hq.lasts (s := u) ((ins.drop n).take k) (by rwa [hu]) (by rw [hblk, hphase])
    (by rw [hblk, hentered]) (by rwa [hticks, hu])
  exact ⟨v, hv, by rw [hwait, hticks, hu, hblk]⟩

theorem ReachesIn.wait_end (hk : k = q.waitLength s.params) (hlen : n + k ≤ ins.length) :
    ReachesIn ins (n + k) s (· = onEnd c) := by
  have hwait := ReachesIn.wait hq hparams h hphase hentered hlen hk.le
  rwa [if_pos hk] at hwait

theorem ReachesIn.wait_more (hk : k < q.waitLength s.params) (hlen : n + k ≤ ins.length) :
    ReachesIn ins (n + k) s (· = { c with wcnt := BitVec.ofNat 32 k }) := by
  have hwait := ReachesIn.wait hq hparams h hphase hentered hlen hk.le
  rwa [if_neg hk.ne] at hwait

end

/-- A claim tick that `ins` reaches and that is not refused is granted. -/
theorem granted_of_ne_refused {i : Nat} (h : ins[i]?.map Prod.snd ≠ some true) (hi : i < ins.length) :
    ins[i]?.map Prod.snd = some false := by
  rw [List.getElem?_eq_getElem hi] at h ⊢
  simpa using h

end

/-! ### A release and a claim -/

section
variable {s : State} {ins : List (Bool × Bool)} (hlen : ins.length = 2)
include hlen

/-- `LINE_RESET` and a granted `CLAIM_OUT` (R130, R131). -/
theorem ticks_claimOut_granted (hphase : s.blk.phase = .lineReset) (hgrant : ins[1]?.map Prod.snd = some false) :
    ∃ u, ticks ins s = .next u ∧ u.blk = { s.blk with claim := .out, wcnt := 0, phase := .wakeHigh } := by
  obtain ⟨⟨d, f⟩, ⟨d', f'⟩, rfl⟩ := List.length_eq_two.mp hlen
  obtain rfl : f' = false := Option.some.inj hgrant
  rw [ticks, tick_lineReset d f hphase, andThen_next, ticks, tick_claimOut_granted d' rfl, andThen_next]
  exact ⟨_, rfl, rfl⟩

/-- `RELEASE_OUT` and a granted `CLAIM_IN` (R134, R135). -/
theorem ticks_claimIn_granted (hphase : s.blk.phase = .releaseOut) (hgrant : ins[1]?.map Prod.snd = some false) :
    ∃ u, ticks ins s = .next u ∧ u.blk = { s.blk with claim := .inp, wcnt := 0, phase := .settle } := by
  obtain ⟨⟨d, f⟩, ⟨d', f'⟩, rfl⟩ := List.length_eq_two.mp hlen
  obtain rfl : f' = false := Option.some.inj hgrant
  rw [ticks, tick_releaseOut d f hphase, andThen_next, ticks, tick_claimIn_granted d' rfl, andThen_next]
  exact ⟨_, rfl, rfl⟩

/-- A refused claim (R131, R135, R215): the transaction has ended, nothing is claimed and `LEVEL` is as it was. -/
theorem ticks_claim_refused (hphase : s.blk.phase = .lineReset ∨ s.blk.phase = .releaseOut)
    (hrefuse : ins[1]?.map Prod.snd = some true) :
    ∃ u, ticks ins s = .next u ∧ u.blk.err = .gpioClaimFail ∧ u.blk.done = true ∧ u.blk.busy = false ∧
      u.blk.claim = .none ∧ u.padClaim = .none ∧ u.blk.level = s.blk.level := by
  obtain ⟨⟨d, f⟩, ⟨d', f'⟩, rfl⟩ := List.length_eq_two.mp hlen
  obtain rfl : f' = true := Option.some.inj hrefuse
  rcases hphase with hphase | hphase
  · rw [ticks, tick_lineReset d f hphase, andThen_next, ticks, tick_claimOut_refused d' rfl, andThen_next]
    exact ⟨_, rfl, rfl, rfl, rfl, rfl, rfl, rfl⟩
  · rw [ticks, tick_releaseOut d f hphase, andThen_next, ticks, tick_claimIn_refused d' rfl, andThen_next]
    exact ⟨_, rfl, rfl, rfl, rfl, rfl, rfl, rfl⟩

end

/-! ### The fixed part of a transaction -/

/-- The block of a transaction before the first sample: as `READ` left it, but for `CLAIM`, `LEVEL` and `PHASE`. -/
def Block.waking (b : Block) (c : Claim) (level : Bool) (q : Phase) : Block :=
  { b.startTransaction with claim := c, level := level, phase := q }

section
variable {s : State} {ins : List (Bool × Bool)} (hparams : s.params.wellFormed = true)

theorem reachesIn_wakeHigh (hclaim : ins[1]?.map Prod.snd = some false) (hlen : 2 ≤ ins.length) :
    ReachesIn ins 2 s.started (· = s.blk.waking .out true .wakeHigh) :=
  ticks_claimOut_granted (s := s.started) (List.length_take_of_le hlen) rfl
    (by rwa [List.getElem?_take_of_lt (by decide)])

include hparams

/-- The end of `WAKE_HIGH` (R132). -/
theorem reachesIn_wakeLow (hclaim : ins[1]?.map Prod.snd = some false)
    (hlen : 2 + 500 * s.params.ticksPerMs ≤ ins.length) :
    ReachesIn ins (2 + 500 * s.params.ticksPerMs) s.started (· = s.blk.waking .out false .wakeLow) :=
  ReachesIn.wait_end (s := s.started) wakeHigh_waitsThen hparams (reachesIn_wakeHigh hclaim (by omega)) rfl rfl rfl hlen

/-- The end of `WAKE_LOW` (R133). -/
theorem reachesIn_releaseOut (hclaim : ins[1]?.map Prod.snd = some false)
    (hlen : 2 + 500 * s.params.ticksPerMs + 20 * s.params.ticksPerMs ≤ ins.length) :
    ReachesIn ins (2 + 500 * s.params.ticksPerMs + 20 * s.params.ticksPerMs) s.started
      (· = s.blk.waking .out false .releaseOut) :=
  ReachesIn.wait_end (s := s.started) wakeLow_waitsThen hparams (reachesIn_wakeLow hparams hclaim (by omega)) rfl rfl
    rfl hlen

/-- The first `ACK_WAIT` tick comes after the fixed part (R252). -/
theorem reachesIn_ackWait (hclaims : claimsGranted s.params ins) (hlen : fixedPart s.params ≤ ins.length) :
    ReachesIn ins (fixedPart s.params) s.started (· = s.blk.waking .inp false .ackWait) := by
  have hfixed : fixedPart s.params =
      2 + 500 * s.params.ticksPerMs + 20 * s.params.ticksPerMs + 2 + s.params.nSettle := by
    rw [fixedPart]
    omega
  rw [hfixed] at hlen ⊢
  obtain ⟨hout, hin⟩ := hclaims
  have hclaimIn : 2 + 500 * s.params.ticksPerMs + 20 * s.params.ticksPerMs + 2 ≤ ins.length := by omega
  have hout' := granted_of_ne_refused hout (by omega)
  have hin' := granted_of_ne_refused hin (by omega)
  have hsettle : ReachesIn ins (2 + 500 * s.params.ticksPerMs + 20 * s.params.ticksPerMs + 2) s.started
      (· = s.blk.waking .inp false .settle) :=
    (reachesIn_releaseOut hparams hout' (by omega)).more fun u _ hblk => by
      obtain ⟨v, hv, hblk'⟩ := ticks_claimIn_granted (s := u) (length_drop_take hclaimIn) (by rw [hblk]; rfl)
        (by rw [getElem?_drop_take (by decide), ← hin']; congr 2; omega)
      exact ⟨v, hv, by rw [hblk', hblk]; rfl⟩
  exact hsettle.wait_end (s := s.started) settle_waitsThen hparams rfl rfl rfl hlen

/-- A refused input claim ends the transaction (R213, R252). -/
theorem ticks_second_claim_refused (hlen : ins.length = 520 * s.params.ticksPerMs + 4)
    (hout : ins[1]?.map Prod.snd = some false) (hin : ins[520 * s.params.ticksPerMs + 3]?.map Prod.snd = some true) :
    ∃ u, ticks ins s.started = .next u ∧ u.blk.err = .gpioClaimFail ∧ u.blk.done = true ∧ u.blk.busy = false ∧
      u.blk.claim = .none ∧ u.padClaim = .none ∧ u.blk.level = false := by
  obtain ⟨v, hv, hblk⟩ := reachesIn_releaseOut (s := s) hparams hout (by omega)
  obtain ⟨u, hu, hended⟩ := ticks_claim_refused (s := v)
    (ins := ins.drop (2 + 500 * s.params.ticksPerMs + 20 * s.params.ticksPerMs)) (by rw [List.length_drop]; omega)
    (.inr (by rw [hblk]; rfl)) (by rw [List.getElem?_drop, ← hin]; congr 2; omega)
  rw [hblk] at hended
  exact ⟨u, ticks_of_take_drop _ hv hu, hended⟩

end

/-! ### What the line sees -/

section
variable {s t : State} {ins : List (Bool × Bool)}

/-- The graph leads from `CLAIM_IN` and the later phases to none before `CLAIM_IN`, but `IDLE` (R38). -/
theorem Phase.released_of_mem_successors {p : Phase} (hp : p = .idle ∨ Phase.claimIn.rank ≤ p.rank) :
    ∀ q ∈ p.successors, q = .idle ∨ Phase.claimIn.rank ≤ q.rank := by
  revert hp
  cases p <;> decide

theorem tick_phase_released {d f : Bool} (hphase : s.blk.phase = .idle ∨ Phase.claimIn.rank ≤ s.blk.phase.rank)
    (h : tick d f s = .next t) : t.blk.phase = .idle ∨ Phase.claimIn.rank ≤ t.blk.phase.rank := by
  rcases tick_phase h with hnext | ⟨e, -, hidle, -⟩
  · exact Phase.released_of_mem_successors hphase _ hnext
  · exact .inl hidle

theorem ticks_phase_released (hphase : s.blk.phase = .idle ∨ Phase.claimIn.rank ≤ s.blk.phase.rank)
    (h : ticks ins s = .next t) : t.blk.phase = .idle ∨ Phase.claimIn.rank ≤ t.blk.phase.rank := by
  induction ins generalizing s with
  | nil => cases h; exact hphase
  | cons i rest ih =>
    obtain ⟨u, hu, hrest⟩ := andThen_eq_next h
    exact ih (tick_phase_released hphase hu) hrest

/-- The output claim is held only before `CLAIM_IN` (R36 j). -/
theorem Phase.not_claimIn_le_of_claimHeld_out {p : Phase} : p.claimHeld = some .out → ¬ Phase.claimIn.rank ≤ p.rank := by
  cases p <;> decide

/-- The pad drives nothing from `CLAIM_IN` on, nor once the transaction has ended (R142, R216). -/
theorem State.Inv.lineDrive_of_released (h : s.Inv)
    (hphase : s.blk.phase = .idle ∨ Phase.claimIn.rank ≤ s.blk.phase.rank)
    (hended : s.blk.phase = .idle → s.blk.done = true) : s.lineDrive = none := by
  refine State.lineDrive_of_padClaim_ne_out ?_
  rcases hphase with hidle | hrank
  · have hdone := hended hidle
    rw [h.pad_agrees.2 hdone, h.block_ok.claim_after_end hdone]
    exact s.blk.err.claimLeft_ne_out
  · obtain ⟨c, hc⟩ := Phase.claimHeld_isSome (le_trans (by decide) hrank)
    rw [h.pad_agrees.1 c hc]
    rintro rfl
    exact Phase.not_claimIn_le_of_claimHeld_out hc hrank

variable (hparams : s.params.wellFormed = true)
include hparams

/-- In a phase that holds the output claim the pad drives the line at the milestone's level. -/
theorem lineDrive_of_reachesIn {b : Block} (hblk : ReachesIn ins ins.length s.started (· = b))
    (hheld : b.phase.claimHeld = some .out) :
    ∃ u, ticks ins s.started = .next u ∧ u.lineDrive = some b.level := by
  obtain ⟨u, hu, rfl⟩ := hblk
  rw [List.take_length] at hu
  exact ⟨u, hu, (ticks_inv (State.started_inv hparams) hu).lineDrive_of_claimHeld_out hheld⟩

/-- During `WAKE_HIGH` (R132). -/
theorem lineDrive_wakeHigh (hclaim : ins[1]?.map Prod.snd = some false) (hfrom : 2 ≤ ins.length)
    (hto : ins.length < 2 + 500 * s.params.ticksPerMs) :
    ∃ u, ticks ins s.started = .next u ∧ u.lineDrive = some true := by
  obtain ⟨k, hk⟩ := Nat.exists_eq_add_of_le hfrom
  have hmore : k < 500 * s.params.ticksPerMs := by omega
  have hwait := ReachesIn.wait_more (s := s.started) wakeHigh_waitsThen hparams (reachesIn_wakeHigh hclaim hfrom) rfl rfl
    hmore (by omega)
  rw [← hk] at hwait
  exact lineDrive_of_reachesIn hparams hwait rfl

/-- During `WAKE_LOW`, and before the `RELEASE_OUT` tick has ended (R133, R134). -/
theorem lineDrive_wakeLow (hclaim : ins[1]?.map Prod.snd = some false)
    (hfrom : 2 + 500 * s.params.ticksPerMs ≤ ins.length)
    (hto : ins.length ≤ 2 + 500 * s.params.ticksPerMs + 20 * s.params.ticksPerMs) :
    ∃ u, ticks ins s.started = .next u ∧ u.lineDrive = some false := by
  obtain ⟨k, hk⟩ := Nat.exists_eq_add_of_le hfrom
  have hwait := ReachesIn.wait (s := s.started) (k := k) wakeLow_waitsThen hparams
    (reachesIn_wakeLow hparams hclaim hfrom) rfl rfl (by omega)
    (show k ≤ 20 * s.params.ticksPerMs by omega)
  rw [← hk] at hwait
  split at hwait
  · exact lineDrive_of_reachesIn hparams hwait rfl
  · exact lineDrive_of_reachesIn hparams hwait rfl

/-- From `CLAIM_IN` on (R134). -/
theorem lineDrive_released (hclaim : ins[1]?.map Prod.snd = some false)
    (hfrom : 2 + 500 * s.params.ticksPerMs + 20 * s.params.ticksPerMs < ins.length) :
    ∃ u, ticks ins s.started = .next u ∧ u.lineDrive = none := by
  obtain ⟨v, hv, hblk⟩ := reachesIn_releaseOut hparams hclaim hfrom.le
  obtain ⟨u, hu, hinv⟩ := ticks_answer (State.started_inv hparams) ins
  have hrest : ticks (ins.drop (2 + 500 * s.params.ticksPerMs + 20 * s.params.ticksPerMs)) v = .next u := by
    have htail := ticks_take_of_le hfrom.le hv (by rwa [List.take_length])
    rwa [List.take_length] at htail
  obtain ⟨i, more, hmore⟩ := List.exists_cons_of_length_pos (l := ins.drop _)
    (by rw [List.length_drop]; omega : 0 < (ins.drop (2 + 500 * s.params.ticksPerMs + 20 * s.params.ticksPerMs)).length)
  rw [hmore, ticks, tick_releaseOut i.1 i.2 (by rw [hblk]; rfl), andThen_next] at hrest
  have hphase := ticks_phase_released (.inr (le_refl Phase.claimIn.rank)) hrest
  exact ⟨u, hu, hinv.lineDrive_of_released hphase (ticks_end_done (fun hidle => by cases hidle) hu)⟩

end

/-! ### The ticks after the fixed part -/

section
variable {s : State} {ins : List (Bool × Bool)} {t : PulseTrain}

/-- A train after the fixed part, `THRESHOLD` and `RECONSTRUCT` (R252). -/
theorem reachesIn_validate (hparams : s.params.wellFormed = true) (hrange : PulseTrainInRange t)
    (hclaims : claimsGranted s.params ins) (hlen : fixedPart s.params + t.samples.length + 2 ≤ ins.length)
    (hins : ((ins.drop (fixedPart s.params)).take t.samples.length).map Prod.fst = t.samples) :
    ReachesIn ins (fixedPart s.params + t.samples.length + 2) s.started (·.phase = .validate) := by
  have hthreshold : ReachesIn ins (fixedPart s.params + t.samples.length) s.started (·.phase = .threshold) :=
    (reachesIn_ackWait hparams hclaims (by omega)).more fun u _ hblk => by
      obtain ⟨v, hv, -, hblk'⟩ := ticksTo_train (s := u) (by rw [hblk]; rfl) (by rw [hblk]; rfl) hrange hins
      exact ⟨v, hv, by rw [hblk']⟩
  refine hthreshold.more fun u _ hphase => ?_
  obtain ⟨v, hv, hblk⟩ := ticks_threshold_reconstruct (s := u) hphase (length_drop_take hlen)
  exact ⟨v, hv, by rw [hblk]; rfl⟩

/-- `VALIDATE` with a match and `CONVERT`: one tick before the end (R190, R192). -/
theorem ticks_validate_convert (hphase : s.blk.phase = .validate) (hmatch : s.blk.checksumMatches = true)
    (hlen : ins.length = 2) : ∃ u, ticks ins s = .next u ∧ u.blk.phase = .finish := by
  obtain ⟨⟨d, f⟩, ⟨d', f'⟩, rfl⟩ := List.length_eq_two.mp hlen
  rw [ticks, tick_validate_match d f hphase hmatch, andThen_next, ticks,
    (tick_convert d' f' rfl).trans (exec_convert _), andThen_next]
  exact ⟨_, rfl, rfl⟩

end

/-! ### How long sampling and decoding last -/

section
variable {s t : State} {b : Block} {levels : List Bool} {ins : List (Bool × Bool)}

/-- Only the sampling phases reach into the buffer by `IDX`, so only they can stop (R62). -/
theorem tick_answers_of_not_samples (d f : Bool) (hphase : ¬ s.blk.phase.samples) : ∃ t, tick d f s = .next t := by
  cases hp : s.blk.phase with
  | idle => exact ⟨_, tick_idle d f hp⟩
  | lineReset => exact ⟨_, tick_lineReset d f hp⟩
  | claimOut =>
    cases f
    · exact ⟨_, tick_claimOut_granted d hp⟩
    · exact ⟨_, tick_claimOut_refused d hp⟩
  | wakeHigh => exact ⟨_, tick_wakeHigh d f hp⟩
  | wakeLow => exact ⟨_, tick_wakeLow d f hp⟩
  | releaseOut => exact ⟨_, tick_releaseOut d f hp⟩
  | claimIn =>
    cases f
    · exact ⟨_, tick_claimIn_granted d hp⟩
    · exact ⟨_, tick_claimIn_refused d hp⟩
  | settle => exact ⟨_, tick_settle d f hp⟩
  | ackWait => exact absurd (.inl hp) hphase
  | sampleLow => exact absurd (.inr (.inl hp)) hphase
  | sampleHigh => exact absurd (.inr (.inr hp)) hphase
  | threshold => exact ⟨_, tick_threshold d f hp⟩
  | reconstruct => exact ⟨_, tick_reconstruct d f hp⟩
  | validate => exact ⟨_, tick_validate d f hp⟩
  | convert => exact ⟨_, tick_convert d f hp⟩
  | finish => exact ⟨_, tick_finish d f hp⟩

/-- In the middle of a train a tick counts, opens the next entry or completes the train: it never stops. -/
theorem tick_sampled_answers {finished : List Nat} {n : Nat} (hlen : finished.length ≤ 82) (hn : n ≤ 35999)
    (hblk : s.blk = b.sampled finished n) (d f : Bool) : ∃ t, tick d f s = .next t := by
  rcases Bool.eq_or_eq_not d (runLevel (finished.length + 1)) with rfl | rfl
  · exact ⟨_, tick_sampled_same f hblk hlen hn⟩
  · by_cases hroom : finished.length < 82
    · exact ⟨_, tick_sampled_next f hblk hroom⟩
    · have hfull : finished.length = 82 := by omega
      rw [hfull]
      exact ⟨_, tick_sampled_complete f hblk hfull⟩

theorem Phase.not_samples_of_past {q : Phase} (h : q = .idle ∨ Phase.threshold.rank ≤ q.rank) : ¬ q.samples := by
  rintro (rfl | rfl | rfl) <;> exact absurd h (by decide)

/-- Either the samples are still the middle of a train in range, or the sampling is over. -/
theorem Block.Progress.sampling_or_past {c : Block} (h : b.Progress levels c) :
    (∃ finished n, finished.length ≤ 82 ∧ RunsInRange (finished ++ [n]) ∧
      levels = alternatingRuns true (finished ++ [n]) ∧ c = b.sampled finished n) ∨
    (c.phase = .idle ∨ Phase.threshold.rank ≤ c.phase.rank) := by
  cases h with
  | sampling finished n hlen hrange hlevels hblk => exact .inl ⟨finished, n, hlen, hrange, hlevels, hblk⟩
  | complete t hrange hlevels hphase => exact .inr (.inr (by rw [hphase]))
  | past hphase => exact .inr (hphase.imp_right le_of_lt)

theorem Block.Progress.ticks_answer (hprogress : b.Progress levels s.blk) (ins : List (Bool × Bool)) :
    ∃ t, ticks ins s = .next t := by
  induction ins generalizing s levels with
  | nil => exact ⟨s, rfl⟩
  | cons i rest ih =>
    have hfirst : ∃ u, tick i.1 i.2 s = .next u := by
      rcases hprogress.sampling_or_past with ⟨finished, n, hlen, hrange, -, hblk⟩ | hpast
      · exact tick_sampled_answers hlen (hrange.1 n (by simp)) hblk i.1 i.2
      · exact tick_answers_of_not_samples i.1 i.2 (Phase.not_samples_of_past hpast)
    obtain ⟨u, hu⟩ := hfirst
    obtain ⟨t, ht⟩ := ih (hprogress.after_tick hu)
    exact ⟨t, by rw [ticks, hu, andThen_next, ht]⟩

/-- The initial wait and 82 runs below the ceiling are shorter than the bound (R158). -/
theorem length_lt_samplingBound {finished : List Nat} {n : Nat} (hlen : finished.length ≤ 82)
    (hrange : RunsInRange (finished ++ [n])) : (alternatingRuns true (finished ++ [n])).length < samplingBound := by
  have hsum := List.sum_le_card_nsmul (finished ++ [n]) 35999 hrange.1
  rw [List.length_append, List.length_singleton, smul_eq_mul] at hsum
  rw [length_alternatingRuns, samplingBound]
  omega

/-- As many samples as the bound end the sampling, from any state that starts it (R158). -/
theorem ticks_samplingBound (hphase : s.blk.phase = .ackWait) (hicnt : s.blk.icnt = 0)
    (hlen : ins.length = samplingBound) :
    ∃ u, ticks ins s = .next u ∧ (u.blk.phase = .idle ∨ Phase.threshold.rank ≤ u.blk.phase.rank) := by
  have hstart := Block.progress_start hphase hicnt
  obtain ⟨u, hu⟩ := hstart.ticks_answer ins
  refine ⟨u, hu, ?_⟩
  rcases (hstart.after_ticks hu).sampling_or_past with ⟨finished, n, hfinished, hrange, hlevels, -⟩ | hpast
  · have hshort := length_lt_samplingBound hfinished hrange
    rw [← hlevels, List.nil_append, List.length_map, hlen] at hshort
    exact absurd hshort (lt_irrefl _)
  · exact hpast

/-- From `THRESHOLD` on every tick goes to a later phase or ends the transaction (R38). -/
theorem Phase.rank_lt_of_mem_successors {p : Phase} (hp : Phase.threshold.rank ≤ p.rank) :
    ∀ q ∈ p.successors, q = .idle ∨ p.rank < q.rank := by
  revert hp
  cases p <;> decide

theorem Phase.rank_lt (p : Phase) : p.rank < 16 := p.code.isLt

/-- Decoding ends at the latest with the tick of code 15, `FINISH`. -/
theorem ticks_decoding_end (hphase : s.blk.phase = .idle ∨ Phase.threshold.rank ≤ s.blk.phase.rank)
    (hlen : 16 ≤ s.blk.phase.rank + ins.length ∨ s.blk.phase = .idle) (h : ticks ins s = .next t) :
    t.blk.phase = .idle := by
  induction ins generalizing s with
  | nil =>
    have hrank := Phase.rank_lt s.blk.phase
    cases h
    exact hlen.resolve_left (by rw [List.length_nil]; omega)
  | cons i rest ih =>
    obtain ⟨u, hu, hrest⟩ := andThen_eq_next h
    refine ih ((tick_phase_past hphase hu).imp_right le_of_lt) ?_ hrest
    rcases tick_phase hu with hnext | ⟨e, -, hidle, -⟩
    · rw [List.length_cons] at hlen
      rcases hphase with hidle | hrank
      · cases (tick_idle i.1 i.2 hidle).symm.trans hu
        exact .inr hidle
      · rcases Phase.rank_lt_of_mem_successors hrank _ hnext with hidle | hlater
        · exact .inr hidle
        · have hactive : s.blk.phase ≠ .idle := Phase.ne_idle_of_rank_pos (lt_of_lt_of_le (by decide) hrank)
          exact .inl (by have := hlen.resolve_right hactive; omega)
    · exact .inr hidle

/-- The longest transaction: the fixed part, the most samples and the ticks of decoding (R158). -/
theorem reachesIn_idle (hparams : s.params.wellFormed = true) (hclaims : claimsGranted s.params ins)
    (hlen : fixedPart s.params + samplingBound + 5 ≤ ins.length) :
    ReachesIn ins (fixedPart s.params + samplingBound + 5) s.started (·.phase = .idle) := by
  have hpast : ReachesIn ins (fixedPart s.params + samplingBound) s.started
      (fun c => c.phase = .idle ∨ Phase.threshold.rank ≤ c.phase.rank) :=
    (reachesIn_ackWait hparams hclaims (by omega)).more fun u _ hblk =>
      ticks_samplingBound (by rw [hblk]; rfl) (by rw [hblk]; rfl) (length_drop_take (by omega))
  obtain ⟨u, hu, hphase⟩ := hpast
  obtain ⟨v, hv, -⟩ :=
    ticks_answer (State.started_inv hparams) (ins.take (fixedPart s.params + samplingBound + 5))
  have hfive := length_drop_take hlen
  have hmore := ticks_take_of_le (Nat.le_add_right _ 5) hu hv
  rw [List.drop_take, Nat.add_sub_cancel_left] at hmore
  refine ⟨v, hv, ticks_decoding_end hphase ?_ hmore⟩
  rw [hfive]
  exact hphase.symm.imp_left fun hrank => by
    have hthreshold : Phase.threshold.rank = 11 := rfl
    omega

end

/-! ### The statements -/

/-- Settles O45: the ticks up to the refused claim are the fixed part's milestones. -/
theorem refusedClaimsEndTheTransaction : Obligations.RefusedClaimsEndTheTransaction := by
  unfold Obligations.RefusedClaimsEndTheTransaction
  refine ⟨fun s d0 f0 d1 hbusy => ?_, fun s ins hparams hbusy hlen hout hin => ?_⟩
  · rw [transaction_eq hbusy]
    exact ticks_claim_refused (s := s.started) rfl (.inl rfl) rfl
  · rw [transaction_eq hbusy]
    exact ticks_second_claim_refused hparams hlen hout hin

/-- Settles O59: one milestone for each clause, and the claim that the pad holds beside it (R36 j). -/
theorem lineSeesTheWakeSequence : Obligations.LineSeesTheWakeSequence := by
  unfold Obligations.LineSeesTheWakeSequence
  refine ⟨fun s n v hbusy => hostWrite_busy n v hbusy, fun s ins hparams hbusy hclaims => ?_⟩
  rw [transaction_eq hbusy]
  have hgranted := granted_of_ne_refused hclaims.1
  match ins with
  | [] =>
    refine ⟨s.started, rfl, ?_⟩
    rw [State.lineDrive_eq]
    by_cases hleft : s.padClaim = .out <;> simp [State.started, hleft]
  | [(d, f)] =>
    refine ⟨_, by rw [ticks, tick_lineReset d f rfl, andThen_next]; rfl, ?_⟩
    simp [State.lineDrive_eq]
  | i :: j :: more =>
    have hfrom : 2 ≤ (i :: j :: more).length := by simp
    generalize i :: j :: more = ins at *
    specialize hgranted (by omega)
    rw [if_neg (by omega), if_neg (by omega)]
    split
    next hhigh => exact lineDrive_wakeHigh hparams hgranted hfrom hhigh
    next hhigh =>
      split
      next hlow => exact lineDrive_wakeLow hparams hgranted (by omega) (by omega)
      next hlow => exact lineDrive_released hparams hgranted (by omega)

/-- Settles O60: the transaction runs until `VALIDATE`, one tick after the train and `THRESHOLD` and `RECONSTRUCT`;
the checksum decides whether one tick or three are left. -/
theorem transactionTickCount : Obligations.TransactionTickCount := by
  unfold Obligations.TransactionTickCount
  intro s t ins hparams hbusy hrange hclaims hlen hins
  simp only [transaction_eq hbusy]
  have hinv := State.started_inv hparams
  have hlast : fixedPart s.params + t.samples.length + 5 ≤ ins.length := hlen.ge
  obtain ⟨v, hv, hphase⟩ := reachesIn_validate hparams hrange hclaims (by omega) hins
  have hvalidate : ReachesIn ins (fixedPart s.params + t.samples.length + 2) s.started (· = v.blk) := ⟨v, hv, rfl⟩
  by_cases hmatch : v.blk.checksumMatches = true
  · have hfinish : ReachesIn ins (fixedPart s.params + t.samples.length + 2 + 2) s.started (·.phase = .finish) :=
      hvalidate.more fun w _ hblk =>
        ticks_validate_convert (by rw [hblk, hphase]) (by rw [hblk, hmatch]) (length_drop_take (by omega))
    have hended : ReachesIn ins (fixedPart s.params + t.samples.length + 2 + 3) s.started (· = v.blk.delivered) :=
      hvalidate.more fun w _ hblk => by
        rw [← hblk]
        exact ticks_validate_convert_finish (by rw [hblk, hphase]) (by rw [hblk, hmatch]) (length_drop_take hlast)
    obtain ⟨w, hw, hactive⟩ := hfinish
    obtain ⟨u, hu, hblk⟩ := hended
    refine ⟨_, u, hu, by rw [hblk]; rfl, .inl ⟨by rw [hblk]; rfl, by rw [fixedPart]; omega⟩, fun m hm => ?_⟩
    exact hinv.runs_before hw (by simp [hactive]) (by omega)
  · have hended : ReachesIn ins (fixedPart s.params + t.samples.length + 2 + 1) s.started
        (· = v.blk.abort .checksumFail) :=
      hvalidate.more fun w _ hblk => by
        rw [← hblk]
        exact ticks_validate_abort (by rw [hblk, hphase]) (by rwa [hblk]) (length_drop_take (by omega))
    obtain ⟨u, hu, hblk⟩ := hended
    refine ⟨_, u, hu, by rw [hblk]; rfl, .inr ⟨by rw [hblk]; rfl, by rw [fixedPart]; omega⟩, fun m hm => ?_⟩
    exact hinv.runs_before hv (by simp [hphase]) (by omega)

/-- Settles O32: a refused claim ends the transaction early; with both granted, the fixed part, the most samples and
the five ticks of decoding leave nothing to do. -/
theorem transactionsEndWithinTheBound : Obligations.TransactionsEndWithinTheBound := by
  unfold Obligations.TransactionsEndWithinTheBound
  refine ⟨fun s ins hphase hicnt hlen => ?_, fun s ins hparams hbusy hlen => ?_⟩
  · obtain ⟨u, hu, hpast⟩ := ticks_samplingBound hphase hicnt hlen
    exact ⟨samplingBound, u, le_rfl, by rwa [List.take_of_length_le hlen.le], Phase.not_samples_of_past hpast⟩
  · simp only [transaction_eq hbusy]
    have hbound : transactionBound s.params = fixedPart s.params + samplingBound + 5 := by
      rw [transactionBound, fixedPart]
      omega
    have hfixed : fixedPart s.params = 520 * s.params.ticksPerMs + s.params.nSettle + 4 := rfl
    by_cases hout : ins[1]?.map Prod.snd = some true
    · obtain ⟨u, hu, -, hdone, hbusy', -⟩ := ticks_claim_refused (s := s.started) (ins := ins.take 2)
        (List.length_take_of_le (by omega)) (.inl rfl) (by rwa [List.getElem?_take_of_lt (by decide)])
      exact ⟨2, u, by omega, hu, hdone, hbusy'⟩
    by_cases hin : ins[520 * s.params.ticksPerMs + 3]?.map Prod.snd = some true
    · obtain ⟨u, hu, -, hdone, hbusy', -⟩ := ticks_second_claim_refused hparams
        (ins := ins.take (520 * s.params.ticksPerMs + 4)) (List.length_take_of_le (by omega))
        (by rw [List.getElem?_take_of_lt (by omega)]; exact granted_of_ne_refused hout (by omega))
        (by rwa [List.getElem?_take_of_lt (by omega)])
      exact ⟨_, u, by omega, hu, hdone, hbusy'⟩
    obtain ⟨u, hu, hidle⟩ := reachesIn_idle hparams ⟨hout, hin⟩ (hbound.symm.trans hlen.symm).le
    have hended := (ticks_inv (State.started_inv hparams) hu).block_ok
    refine ⟨_, u, hbound.ge, hu, ticks_end_done (fun hstart => by cases hstart) hu hidle, ?_⟩
    exact Bool.eq_false_iff.mpr fun hrun => hended.busy_iff_active.mp hrun hidle

end Sys2Proof.Machine
end

section
/-! PROOFS. The agenda and the noninterference statements (00_scope.md R7, R71, 20_memory.md R69,
44_validate_convert.md R196). No operation reads the agenda, the host's data or the count of draws, so changing them
commutes with it; a tick's effect on the block is then that of the block, the pad's claim and the parameters. -/

namespace Sys2Proof.Machine

/-! ### What no operation reads -/

/-- The agenda, the host's data and the count of draws changed, the rest kept. -/
def State.mapUnread (a : List Event → List Event) (h : Word → Word) (n : Nat → Nat) (s : State) : State :=
  { s with agenda := a s.agenda, hostData := h s.hostData, draws := n s.draws }

/-- `o` computed from the changed state is `o` computed from the state, changed. -/
def CommutesWith (g : State → State) (o : State → Result) : Prop :=
  ∀ s, o (g s) = andThen (o s) fun t => .next (g t)

section
variable (a : List Event → List Event) (h : Word → Word) (n : Nat → Nat)

theorem timedWait_mapUnread (k : Nat) (onEnd : Block → Block) :
    CommutesWith (State.mapUnread a h n) (timedWait k onEnd) := by
  intro s
  rw [timedWait_eq, timedWait_eq]
  rfl

theorem countSample_mapUnread : CommutesWith (State.mapUnread a h n) countSample := by
  intro s
  by_cases hidx : s.blk.idx.toNat ≤ 81
  · rw [countSample_eq s hidx, countSample_eq (s.mapUnread a h n) hidx]
    rfl
  · rw [countSample_beyond s (not_le.mp hidx), countSample_beyond (s.mapUnread a h n) (not_le.mp hidx)]
    rfl

theorem openNextCount_mapUnread (q : Phase) : CommutesWith (State.mapUnread a h n) (openNextCount q) := by
  intro s
  by_cases hidx : s.blk.idx.toNat + 1 ≤ 81
  · rw [openNextCount_eq q s hidx, openNextCount_eq q (s.mapUnread a h n) hidx]
    rfl
  · rw [openNextCount_beyond q s (not_le.mp hidx), openNextCount_beyond q (s.mapUnread a h n) (not_le.mp hidx)]
    rfl

/-- Two operations that do not read them, chosen by a test that does not. -/
theorem CommutesWith.ite {g : State → State} {test : State → Prop} [DecidablePred test] {o o' : State → Result}
    (htest : ∀ s, test (g s) ↔ test s) (ho : CommutesWith g o) (ho' : CommutesWith g o') :
    CommutesWith g fun s => if test s then o s else o' s := by
  intro s
  by_cases hs : test s
  · simp only [if_pos hs, if_pos ((htest s).mpr hs), ho s]
  · simp only [if_neg hs, if_neg (mt (htest s).mp hs), ho' s]

/-- R7: an operation reads neither of the three (log 1, log 2). -/
theorem exec_mapUnread (i : Instr) : CommutesWith (State.mapUnread a h n) (exec i) := by
  cases i with
  | wakeHigh =>
    intro s
    rw [exec_wakeHigh, exec_wakeHigh]
    exact timedWait_mapUnread a h n s.params.nWakeHigh _ s
  | wakeLow =>
    intro s
    rw [exec_wakeLow, exec_wakeLow]
    exact timedWait_mapUnread a h n s.params.nWakeLow _ s
  | settle =>
    intro s
    rw [exec_settle, exec_settle]
    exact timedWait_mapUnread a h n s.params.nSettle _ s
  | read | claimOut | claimIn | validate => exact CommutesWith.ite (fun _ => Iff.rfl) (fun _ => rfl) fun _ => rfl
  | ackWait =>
    exact CommutesWith.ite (fun _ => Iff.rfl) (CommutesWith.ite (fun _ => Iff.rfl) (fun _ => rfl) fun _ => rfl)
      fun _ => rfl
  | sampleLow =>
    exact CommutesWith.ite (fun _ => Iff.rfl) (openNextCount_mapUnread a h n _) (countSample_mapUnread a h n)
  | sampleHigh =>
    exact CommutesWith.ite (fun _ => Iff.rfl) (countSample_mapUnread a h n)
      (CommutesWith.ite (fun _ => Iff.rfl) (fun _ => rfl) (openNextCount_mapUnread a h n _))
  | idle | lineReset | releaseOut | threshold | reconstruct | convert | finish | padNone | padRelease | padClaimOut
  | padClaimIn => exact fun _ => rfl

theorem tick_mapUnread (d f : Bool) : CommutesWith (State.mapUnread a h n) (tick d f) := by
  intro s
  have hpad : exec (decodePad2 s.padCmd) ((s.mapUnread a h n).withPins d f) =
      andThen (exec (decodePad2 s.padCmd) (s.withPins d f)) fun t => .next (t.mapUnread a h n) :=
    exec_mapUnread a h n _ (s.withPins d f)
  show andThen (exec (decodePad2 s.padCmd) ((s.mapUnread a h n).withPins d f)) (exec (decodePhase4 s.blk.phase.code)) = _
  rw [hpad, tick, andThen_assoc, andThen_assoc]
  congr 1
  exact funext fun u => exec_mapUnread a h n _ u

theorem ticks_mapUnread (ins : List (Bool × Bool)) : CommutesWith (State.mapUnread a h n) (ticks ins) := by
  induction ins with
  | nil => exact fun _ => rfl
  | cons i rest ih =>
    intro s
    rw [ticks, tick_mapUnread a h n i.1 i.2 s, ticks, andThen_assoc, andThen_assoc]
    congr 1
    exact funext ih

theorem hostWrite_mapUnread (k : Nat) (v : Word) : CommutesWith (State.mapUnread a h n) (hostWrite k v) := by
  refine CommutesWith.ite (fun _ => Iff.rfl) (fun s => ?_) fun _ => rfl
  cases decodeCmd32 v with
  | some i => exact exec_mapUnread a h n i s
  | none => rfl

/-- No transition reads the agenda, and only a host read writes the host's data (log 1, R113). -/
theorem perform_mapUnread (r : Transition) (hread : ∀ k, r = .hostRead k → h = id) :
    CommutesWith (State.mapUnread a h id) (perform r) := by
  cases r with
  | reset => exact fun _ => rfl
  | hostWrite k v => exact hostWrite_mapUnread a h id k v
  | hostRead k =>
    obtain rfl := hread k rfl
    exact fun _ => rfl
  | tick d f => exact tick_mapUnread a h id d f

end

/-! ### Steps and transitions -/

section
variable {s t : State} {r : Transition}

/-- A transition leaves the agenda as it was (log 1). -/
theorem perform_agenda (h : perform r s = .next t) : t.agenda = s.agenda := by
  have hsame : perform r s = .next (t.mapUnread (fun _ => s.agenda) id id) := by
    have hcommutes := perform_mapUnread (fun _ => s.agenda) id r (fun _ _ => rfl) s
    rwa [h, andThen_next] at hcommutes
  rw [Host.Outcome.next.inj (h.symm.trans hsame)]
  rfl

theorem run_succ (k : Nat) (s : State) :
    Host.Core.run Sys2Proof.core (k + 1) s = andThen (step s) (Host.Core.run Sys2Proof.core k) := by
  have hcore : Sys2Proof.core.step s = step s := rfl
  simp only [Host.Core.run, hcore]
  cases step s <;> rfl

/-- Running the transitions that stand first on the agenda is performing them on the state without them (R71). -/
theorem run_eq_performAll (ts : List Transition) {rest : List Event} (hagenda : s.agenda = ts.map Event.does ++ rest) :
    Host.Core.run Sys2Proof.core ts.length s = performAll ts { s with agenda := rest } := by
  induction ts generalizing s with
  | nil =>
    obtain rfl : s.agenda = rest := hagenda
    rfl
  | cons r ts ih =>
    rw [List.length_cons, run_succ, step_does hagenda, performAll]
    have hwaiting := perform_mapUnread (fun _ => rest) id r (fun _ _ => rfl)
      { s with agenda := ts.map Event.does ++ rest }
    simp only [State.mapUnread, id] at hwaiting
    rw [hwaiting, andThen_assoc]
    cases hfirst : perform r { s with agenda := ts.map Event.does ++ rest } with
    | next u => exact ih (perform_agenda hfirst)
    | fault e => rfl
    | refused e => rfl

end

/-! ### Host reads -/

/-- The transitions of a list that are no host reads. -/
def withoutReads (ts : List Transition) : List Transition :=
  ts.filter fun x => match x with | .hostRead _ => false | _ => true

/-- Whatever the host's data is, the transitions without the reads lead to the same state but for the data (R69). -/
theorem performAll_withoutReads (ts : List Transition) {s t : State} {w : Word}
    (h : performAll ts { s with hostData := w } = .next t) :
    ∃ t', performAll (withoutReads ts) s = .next t' ∧ t = { t' with hostData := t.hostData } := by
  induction ts generalizing s w with
  | nil => cases h; exact ⟨s, rfl, rfl⟩
  | cons r ts ih =>
    obtain ⟨u, hu, hrest⟩ := andThen_eq_next h
    by_cases hread : ∃ k, r = .hostRead k
    · obtain ⟨k, rfl⟩ := hread
      cases (perform_hostRead k _).symm.trans hu
      exact ih hrest
    · have hcommutes := perform_mapUnread id (fun _ => w) r (fun k hk => absurd ⟨k, hk⟩ hread) s
      obtain ⟨v, hv, hvu⟩ := andThen_eq_next (hcommutes.symm.trans hu)
      cases hvu
      obtain ⟨t', ht', hsame⟩ := ih hrest
      have hkept : withoutReads (r :: ts) = r :: withoutReads ts := by
        refine List.filter_cons_of_pos ?_
        cases r with
        | hostRead k => exact absurd ⟨k, rfl⟩ hread
        | reset | hostWrite | tick => rfl
      exact ⟨t', by rw [hkept, performAll, hv, andThen_next, ht'], hsame⟩

/-! ### The first tick of a transaction -/

/-- The state after an accepted `READ` and the `LINE_RESET` tick. -/
def State.lineResetDone (d f : Bool) (s : State) : State :=
  { (s.started.withPins d f).onBlock (fun b => { b with claim := .none, phase := .claimOut }) with padClaim := .none }

theorem transaction_cons {s : State} (d f : Bool) (rest : List (Bool × Bool)) (hbusy : s.blk.busy = false) :
    transaction ((d, f) :: rest) s = ticks rest (s.lineResetDone d f) := by
  rw [transaction_eq hbusy, ticks, tick_lineReset d f rfl, andThen_next, State.lineResetDone]

/-- `READ` clears all of the block but `CLAIM`, and `LINE_RESET` writes that and the pad's claim: the parameters and the
inputs apart, two such states differ only in what nothing reads (R110, R130). -/
theorem State.lineResetDone_eq {s₁ s₂ : State} (d f : Bool) (hparams : s₁.params = s₂.params) :
    s₂.lineResetDone d f =
      (s₁.lineResetDone d f).mapUnread (fun _ => s₂.agenda) (fun _ => s₂.hostData) (fun _ => s₂.draws) := by
  simp only [State.lineResetDone, State.mapUnread, State.started, State.onBlock, State.withPins, hparams]
  rfl

/-! ### The statements -/

/-- Settles O47: step by step, the transitions still listed only wait. -/
theorem stepsFollowTheAgenda : Obligations.StepsFollowTheAgenda := by
  unfold Obligations.StepsFollowTheAgenda
  exact fun ts rest s => run_eq_performAll ts

/-- Settles O58: no other transition reads what the host reads write. -/
theorem hostReadsDisturbNothing : Obligations.HostReadsDisturbNothing := by
  unfold Obligations.HostReadsDisturbNothing
  exact fun ts s t h => performAll_withoutReads ts (w := s.hostData) h

/-- Settles O57: `READ` and the `LINE_RESET` tick overwrite the whole block and the pad's claim, and the ticks after
them read nothing else. -/
theorem outcomeIndependentOfEarlierState : Obligations.OutcomeIndependentOfEarlierState := by
  unfold Obligations.OutcomeIndependentOfEarlierState
  intro s₁ s₂ t₁ ins hparams hbusy₁ hbusy₂ hne h
  obtain ⟨⟨d, f⟩, rest, rfl⟩ := List.exists_cons_of_ne_nil hne
  rw [transaction_cons d f rest hbusy₁] at h
  rw [transaction_cons d f rest hbusy₂, State.lineResetDone_eq d f hparams, ticks_mapUnread, h, andThen_next]
  exact ⟨_, rfl, rfl⟩

end Sys2Proof.Machine
end

section
/-! PROOFS. The operation codes and the frame format (30_encoding.md R80, R81, R86 to R91), and the step that runs what
a code decodes to (R7). -/

namespace Sys2Proof.Machine

/-! ### Each format alone -/

theorem decode_cmd32 {n : Nat} (h : n < 2 ^ 32) :
    decode ⟨.cmd32, n⟩ = if n = 1 then .ok .read else .error .reservedCommand := by
  have hfits : (EncodedWord.mk .cmd32 n).wellFormed = true := decide_eq_true h
  have hword : BitVec.ofNat 32 n = 0x00000001#32 ↔ n = 1 := by
    rw [← BitVec.toNat_inj, BitVec.toNat_ofNat, Nat.mod_eq_of_lt h]
    rfl
  by_cases hn : n = 1
  · simp only [decode, hfits, if_true, decodeCmd32, hword, if_pos hn]
  · simp only [decode, hfits, if_true, decodeCmd32, hword, if_neg hn]

theorem decode_phase4 (c : BitVec 4) : decode ⟨.phase4, c.toNat⟩ = .ok (decodePhase4 c) := by
  have hfits : (EncodedWord.mk .phase4 c.toNat).wellFormed = true := decide_eq_true c.isLt
  simp [decode, hfits]

theorem encode_decodePhase4 : ∀ c : BitVec 4, encode (decodePhase4 c) = ⟨.phase4, c.toNat⟩ := by decide

theorem encode_decodePad2 : ∀ c : BitVec 2, encode (decodePad2 c) = ⟨.pad2, c.toNat⟩ := by decide

/-! ### The decoder inverts the encoder -/

/-- What decodes fits its format (R80). -/
theorem lt_of_decode_ok {e : EncodedWord} {i : Instr} (h : decode e = .ok i) : e.bits < 2 ^ e.format.width := by
  by_contra hbeyond
  have hfits : e.wellFormed = false := decide_eq_false hbeyond
  simp [decode, hfits] at h

theorem encode_of_decode_ok {e : EncodedWord} {i : Instr} (h : decode e = .ok i) : e = encode i := by
  have hfits := lt_of_decode_ok h
  obtain ⟨format, n⟩ := e
  cases format with
  | cmd32 =>
    rw [decode_cmd32 hfits] at h
    split at h
    next hone => cases h; cases hone; rfl
    next => cases h
  | phase4 =>
    obtain ⟨c, rfl⟩ : ∃ c : BitVec 4, c.toNat = n := ⟨BitVec.ofNatLT n hfits, rfl⟩
    cases (decode_phase4 c).symm.trans h
    exact (encode_decodePhase4 c).symm
  | pad2 =>
    obtain ⟨c, rfl⟩ : ∃ c : BitVec 2, c.toNat = n := ⟨BitVec.ofNatLT n hfits, rfl⟩
    cases (decode_pad2 c).symm.trans h
    exact (encode_decodePad2 c).symm

theorem decode_encode (i : Instr) : decode (encode i) = .ok i := by
  cases i <;> rfl

/-! ### The frame -/

/-- Byte `j` lies in bits `8 (4 - j)` to `8 (4 - j) + 7` (R64, R81). -/
theorem Block.f40_bit (b : Block) {j i : Nat} (hj : j < 5) (hi : i < 8) :
    b.f40.getLsbD (8 * (4 - j) + i) = b.frame[j].getLsbD i := by
  simp only [Block.f40, BitVec.getLsbD_append]
  interval_cases j
  · rw [if_neg (by omega), if_neg (by omega), if_neg (by omega), if_neg (by omega)]
    congr 1
    omega
  · rw [if_neg (by omega), if_neg (by omega), if_neg (by omega), if_pos (by omega)]
    congr 1
    omega
  · rw [if_neg (by omega), if_neg (by omega), if_pos (by omega)]
    congr 1
    omega
  · rw [if_neg (by omega), if_pos (by omega)]
    congr 1
    omega
  · rw [if_pos (by omega)]
    congr 1
    omega

/-! ### The statements -/

/-- Settles O1: format by format from the code, constructor by constructor from the operation. -/
theorem decodeIsTheInverseOfEncode : Obligations.DecodeIsTheInverseOfEncode := by
  unfold Obligations.DecodeIsTheInverseOfEncode
  exact fun e i => ⟨encode_of_decode_ok, fun h => h ▸ decode_encode i⟩

/-- Settles O2: the word fits `CMD32` and is not `READ`. -/
theorem reservedCommandWordsAreRejected : Obligations.ReservedCommandWordsAreRejected := by
  unfold Obligations.ReservedCommandWordsAreRejected
  intro n hn hreserved
  rw [decode_cmd32 hn, if_neg hreserved]

/-- Settles O3: each word is the code of its operation. -/
theorem tableWordsDecodeAsListed : Obligations.TableWordsDecodeAsListed := by
  unfold Obligations.TableWordsDecodeAsListed
  exact ⟨decode_encode .read, decode_encode .claimOut, decode_encode .sampleHigh, decode_encode .threshold,
    decode_encode .validate, decode_encode .padClaimOut⟩

/-- Settles O5: every field bit by bit, each bit in its byte. -/
theorem frameFieldsLieWhereTheFormatPutsThem : Obligations.FrameFieldsLieWhereTheFormatPutsThem := by
  unfold Obligations.FrameFieldsLieWhereTheFormatPutsThem
  refine fun b => ⟨fun k hk => ?_, BitVec.eq_of_getLsbD_eq fun i hi => ?_, ?_,
    BitVec.eq_of_getLsbD_eq fun i hi => ?_, BitVec.eq_of_getLsbD_eq fun i hi => ?_⟩
  · have hbyte : k / 8 < 5 := by omega
    have hbit := b.f40_bit hbyte (show 7 - k % 8 < 8 by omega)
    rw [show 8 * (4 - k / 8) + (7 - k % 8) = 39 - k by omega] at hbit
    rw [Vector.getElem?_eq_getElem hbyte, Option.map_some, hbit]
  · rw [Block.humidity, BitVec.getLsbD_append, BitVec.getLsbD_extractLsb', decide_eq_true hi, Bool.true_and]
    split
    next hlow => exact (b.f40_bit (j := 1) (by decide) hlow).symm
    next hhigh =>
      have hbit := b.f40_bit (j := 0) (by decide) (show i - 8 < 8 by omega)
      rw [← hbit]
      congr 1
      omega
  · exact (b.f40_bit (j := 2) (by decide) (by decide : 7 < 8)).symm
  · rw [Block.tempMagnitude, BitVec.getLsbD_append, BitVec.getLsbD_extractLsb', BitVec.getLsbD_extractLsb',
      decide_eq_true hi, Bool.true_and]
    split
    next hlow => exact (b.f40_bit (j := 3) (by decide) hlow).symm
    next hhigh =>
      have hbit := b.f40_bit (j := 2) (by decide) (show i - 8 < 8 by omega)
      rw [decide_eq_true (show i - 8 < 7 by omega), Bool.true_and, Nat.zero_add, ← hbit]
      congr 1
      omega
  · rw [BitVec.getLsbD_extractLsb', decide_eq_true hi, Bool.true_and]
    exact (b.f40_bit (j := 4) (by decide) hi).symm

/-- Settles O46: the decoder of a whole code agrees with the one each format's transition uses. -/
theorem stepRunsTheDecodedOperation : Obligations.StepRunsTheDecodedOperation := by
  unfold Obligations.StepRunsTheDecodedOperation
  refine fun s rest => ⟨fun v i hagenda hi => ?_, fun d f i j hagenda hi hj => ?_, fun n hagenda => ?_,
    fun hagenda => ?_, step_undefinedBusCycle⟩
  · rw [decode_cmd32 v.isLt] at hi
    split at hi
    next hone =>
      cases hi
      obtain rfl : v = 1#32 := BitVec.eq_of_toNat_eq hone
      rw [step_does hagenda]
      rfl
    next => cases hi
  · rw [decode_phase4] at hi
    rw [decode_pad2] at hj
    cases hi
    cases hj
    rw [step_does hagenda]
    rfl
  · rw [step_does hagenda, perform_hostRead]
  · exact ⟨_, (step_does hagenda).trans (perform_reset _), rfl, rfl⟩

end Sys2Proof.Machine
end

section
/-! PROOFS. The host's view of the block (10_state.md R25, 40_host_commands.md R115, 44_validate_convert.md R193, R194):
the fields of the three words it reads, and the values the flags can show. -/

namespace Sys2Proof.Machine

/-! ### The fields of the words -/

/-- A bit of the upper of two fields side by side. -/
theorem getLsbD_append_add {m n : Nat} (x : BitVec m) (y : BitVec n) (i : Nat) :
    (x ++ y).getLsbD (n + i) = x.getLsbD i := by
  rw [BitVec.getLsbD_append, if_neg (by omega), Nat.add_sub_cancel_left]

section
variable (b : Block)

theorem statusWord_busy : b.statusWord.getLsbD 0 = b.busy := by
  simp only [Block.statusWord]
  cases b.done <;> cases b.busy <;> cases b.err <;> decide

theorem statusWord_upper : b.statusWord.extractLsb' 5 27 = 0 := by
  simp only [Block.statusWord]
  cases b.done <;> cases b.busy <;> cases b.err <;> decide

theorem readReg_hum_field : (b.readReg 2).extractLsb' 0 16 = b.humX10 := by
  refine BitVec.eq_of_toNat_eq ?_
  have hfits := b.humX10.isLt
  rw [Block.readReg_hum, BitVec.extractLsb'_toNat, BitVec.toNat_ofNat, Nat.shiftRight_zero]
  omega

theorem readReg_temp_sign : (b.readReg 3).getLsbD 31 = b.tempNeg := by
  show (BitVec.ofBool b.tempNeg ++ b.tempMag ++ b.tempX10).getLsbD (16 + (15 + 0)) = _
  rw [getLsbD_append_add, getLsbD_append_add]
  simp

theorem readReg_temp_magnitude : (b.readReg 3).extractLsb' 16 15 = b.tempMag := by
  refine BitVec.eq_of_getLsbD_eq fun i hi => ?_
  rw [BitVec.getLsbD_extractLsb', decide_eq_true hi, Bool.true_and]
  show (BitVec.ofBool b.tempNeg ++ b.tempMag ++ b.tempX10).getLsbD (16 + i) = _
  rw [getLsbD_append_add, BitVec.getLsbD_append, if_pos hi]

end

/-! ### The flags -/

/-- A transaction runs, none has run yet, or one has ended with an outcome the block raises (R36 a to d). -/
theorem Block.MeetsR36.flags_cases {b : Block} (h : b.MeetsR36) :
    (b.busy = true ∧ b.done = false ∧ b.err = .ok) ∨ (b.busy = false ∧ b.done = false ∧ b.err = .ok) ∨
      (b.busy = false ∧ b.done = true ∧ b.err ≠ .invalidArgument) := by
  have hraised : b.err ≠ .invalidArgument := fun he => absurd (he ▸ h.error_in_range) (by decide)
  cases hbusy : b.busy with
  | true =>
    obtain ⟨-, hdone, herr⟩ := h.flags_of_active (h.busy_iff_active.mp hbusy)
    exact .inl ⟨rfl, hdone, herr⟩
  | false =>
    cases hdone : b.done with
    | true => exact .inr (.inr ⟨rfl, rfl, hraised⟩)
    | false =>
      have herr : b.err = .ok := not_not.mp fun he => Bool.eq_false_iff.mp hdone (h.error_means_done he)
      exact .inr (.inl ⟨rfl, rfl, herr⟩)

/-- The six values of `STATUS` (R25). -/
theorem Block.MeetsR36.statusWord_cases {b : Block} (h : b.MeetsR36) :
    b.readReg 1 = 0x00 ∨ b.readReg 1 = 0x01 ∨ b.readReg 1 = 0x02 ∨ b.readReg 1 = 0x06 ∨ b.readReg 1 = 0x0A ∨
      b.readReg 1 = 0x0E := by
  rw [Block.readReg_status]
  rcases h.flags_cases with ⟨hbusy, hdone, herr⟩ | ⟨hbusy, hdone, herr⟩ | ⟨hbusy, hdone, hraised⟩
  · rw [hbusy, hdone, herr]; decide
  · rw [hbusy, hdone, herr]; decide
  · rw [hbusy, hdone]
    cases herr : b.err with
    | invalidArgument => exact absurd herr hraised
    | ok | timeout | checksumFail | gpioClaimFail => decide

/-! ### The statements -/

/-- Settles O11: the fields of the word, and its value for each state the flags can be in. -/
theorem statusReadsOneOfSixValues : Obligations.StatusReadsOneOfSixValues := by
  unfold Obligations.StatusReadsOneOfSixValues
  intro s hreach
  exact ⟨statusWord_busy s.blk, statusWord_done s.blk, statusWord_err s.blk, statusWord_upper s.blk,
    hreach.inv.block_ok.statusWord_cases, fun v => hostWrite_of_ne_cmd v (by decide)⟩

/-- Settles O12: the three words field by field, then the outcome by `ERR`. -/
theorem hostResultOfAnEndedTransaction : Obligations.HostResultOfAnEndedTransaction := by
  unfold Obligations.HostResultOfAnEndedTransaction
  intro s hinv hdone
  have hrange := hinv.block_ok.error_in_range
  have hstatus : (s.blk.readReg 1).extractLsb' 2 3 = s.blk.err.code := statusWord_err s.blk
  rw [hostResult, readReg_status_done, if_pos hdone, hstatus, readReg_hum_field, readReg_temp_magnitude,
    readReg_temp_sign]
  cases herr : s.blk.err with
  | invalidArgument => exact absurd (herr ▸ hrange) (by decide)
  | ok | timeout | checksumFail | gpioClaimFail => rfl

/-- Settles O39: a magnitude of 15 bits and its negation are in the range of 16-bit two's complement. -/
theorem convertedTemperatureIsSignedMagnitude : Obligations.ConvertedTemperatureIsSignedMagnitude := by
  unfold Obligations.ConvertedTemperatureIsSignedMagnitude
  refine fun s => ⟨_, exec_convert s, ?_⟩
  show (s.blk.tempTwosComplement.signExtend 32).toInt =
    if s.blk.tempSign = true then -(s.blk.tempMagnitude.toNat : Int) else (s.blk.tempMagnitude.toNat : Int)
  have hmag := s.blk.tempMagnitude.isLt
  have hvalue := s.blk.tempTwosComplement_toNat
  rw [BitVec.toInt_signExtend_of_le (by decide), BitVec.toInt_eq_toNat_cond]
  split at hvalue <;> split <;> omega

end Sys2Proof.Machine
end

section
/-! PROOFS. The two sampling operations entry by entry (42_pulse_sampling.md R152, R153) and the reading of
well-separated pulses (43_threshold_reconstruct.md R175). -/

namespace Sys2Proof.Machine

/-! ### Counting and opening, with the entry that exists -/

section
variable {s : State}

theorem countSample_below (hidx : s.blk.idx.toNat < 82) (hbelow : s.blk.pulse[s.blk.idx.toNat].toNat + 1 ≠ 36000) :
    countSample s = .next { s with blk := { s.blk with
      pulse := s.blk.pulse.set s.blk.idx.toNat (s.blk.pulse[s.blk.idx.toNat] + 1) } } := by
  rw [countSample_eq s (by omega), State.onBlock]
  dsimp only
  rw [countAt_eq_getElem _ hidx, if_neg (by omega), Block.setCount_eq_set _ hidx]

theorem countSample_ceiling (hidx : s.blk.idx.toNat < 82) (hceil : s.blk.pulse[s.blk.idx.toNat].toNat + 1 = 36000) :
    countSample s = .next { s with blk := { s.blk with
      pulse := s.blk.pulse.set s.blk.idx.toNat 36000
      err := .timeout, busy := false, done := true, phase := .idle } } := by
  rw [countSample_eq s (by omega), State.onBlock]
  dsimp only
  rw [countAt_eq_getElem _ hidx, if_pos (by omega), Block.setCount_eq_set _ hidx, add_one_eq_ceiling (by omega)]
  rfl

theorem openNextCount_next (q : Phase) (hidx : s.blk.idx.toNat + 1 < 82) :
    openNextCount q s = .next { s with blk := { s.blk with
      pulse := s.blk.pulse.set (s.blk.idx.toNat + 1) 1
      idx := s.blk.idx + 1, phase := q } } := by
  rw [openNextCount_eq q s (by omega), State.onBlock, Block.setCount_eq_set _ hidx]

/-! ### The operations by `din` -/

theorem exec_sampleLow_low (h : s.din = false) : exec .sampleLow s = countSample s := if_neg (Bool.eq_false_iff.mp h)

theorem exec_sampleLow_high (h : s.din = true) : exec .sampleLow s = openNextCount .sampleHigh s := if_pos h

theorem exec_sampleHigh_high (h : s.din = true) : exec .sampleHigh s = countSample s := if_pos h

theorem exec_sampleHigh_last (h : s.din = false) (hlast : s.blk.idx = 81#7) :
    exec .sampleHigh s = .next (s.onBlock fun b => { b with phase := .threshold }) :=
  (if_neg (Bool.eq_false_iff.mp h)).trans (if_pos hlast)

theorem exec_sampleHigh_low (h : s.din = false) (hidx : s.blk.idx ≠ 81#7) :
    exec .sampleHigh s = openNextCount .sampleLow s :=
  (if_neg (Bool.eq_false_iff.mp h)).trans (if_neg hidx)

end

/-! ### The statements -/

/-- Settles O26: a low sample is counted, a high one opens the next entry; neither reaches beyond the buffer. -/
theorem sampleLowCountsLowSamples : Obligations.SampleLowCountsLowSamples := by
  unfold Obligations.SampleLowCountsLowSamples
  exact ⟨rfl, rfl, fun s hidx hdin hbelow => (exec_sampleLow_low hdin).trans (countSample_below hidx hbelow),
    fun s hidx hdin hceil => (exec_sampleLow_low hdin).trans (countSample_ceiling hidx hceil),
    fun s hidx hdin => (exec_sampleLow_high hdin).trans (openNextCount_next _ hidx),
    fun s hdin hbeyond => (exec_sampleLow_low hdin).trans (countSample_beyond s hbeyond),
    fun s hdin hbeyond => (exec_sampleLow_high hdin).trans (openNextCount_beyond _ s hbeyond)⟩

/-- Settles O27: as O26 with the levels exchanged; at entry 81 the low sample is not stored. -/
theorem sampleHighCountsHighSamples : Obligations.SampleHighCountsHighSamples := by
  unfold Obligations.SampleHighCountsHighSamples
  refine ⟨rfl, rfl, fun s hidx hdin hbelow => (exec_sampleHigh_high hdin).trans (countSample_below hidx hbelow),
    fun s hidx hdin hceil => (exec_sampleHigh_high hdin).trans (countSample_ceiling hidx hceil),
    fun s hdin hlast => exec_sampleHigh_last hdin (BitVec.eq_of_toNat_eq hlast),
    fun s hidx hdin => ?_, fun s hbeyond => ?_⟩
  · have hnotLast : s.blk.idx ≠ 81#7 := by
      intro hlast
      rw [hlast] at hidx
      exact absurd hidx (by decide)
    exact (exec_sampleHigh_low hdin hnotLast).trans (openNextCount_next _ hidx)
  · cases hdin : s.din with
    | true => exact (exec_sampleHigh_high hdin).trans (countSample_beyond s hbeyond)
    | false =>
      have hnotLast : s.blk.idx ≠ 81#7 := by
        intro hlast
        rw [hlast] at hbeyond
        exact absurd hbeyond (by decide)
      exact (exec_sampleHigh_low hdin hnotLast).trans (openNextCount_beyond _ s (by omega))

/-- Settles O36: the threshold is the floored mean, and a count of at least 1 leaves room for the rounding. -/
theorem wellSeparatedPulsesReadCorrectly : Obligations.WellSeparatedPulsesReadCorrectly := by
  unfold Obligations.WellSeparatedPulsesReadCorrectly
  intro s k hk hcounts
  refine ⟨_, by rw [exec_threshold, andThen_next, exec_reconstruct], ?_⟩
  have hhigh : 1 ≤ (s.blk.countAt (2 * k + 3)).toNat := (hcounts _ (by omega)).1
  have hbit := (s.blk.thresholded s.params.ackInSum).decodedFrame_bit hk
  have hsame : (s.blk.thresholded s.params.ackInSum).countAt (2 * k + 3) = s.blk.countAt (2 * k + 3) :=
    countAt_of_pulse_eq rfl _
  rw [Block.frameBit_eq, Block.thresholded_thresh _ fun i hi => (hcounts i hi).2, hsame, Block.lowSum_eq] at hbit
  refine ⟨fun hlow => hbit.trans ?_, fun hlong => hbit.trans ?_⟩
  · exact congrArg some (decide_eq_false (by omega))
  · exact congrArg some (decide_eq_true (by omega))

end Sys2Proof.Machine
end

section
/-! PROOFS. The pad's claim commands (41_line_control.md R139, R140). -/

namespace Sys2Proof.Machine

section
variable {s : State}

theorem exec_padClaimOut (s : State) :
    exec .padClaimOut s = .next { s with padClaim := if s.padFail then .none else .out } := rfl

theorem exec_padClaimIn (s : State) :
    exec .padClaimIn s = .next { s with padClaim := if s.padFail then .none else .inp } := rfl

/-- The claim commands are issued only in the two claim phases (R88). -/
theorem Phase.claimHeld_of_padCmd {q : Phase} : q.padCmd = 2#2 ∨ q.padCmd = 3#2 → q.claimHeld = some .none := by
  cases q <;> decide

/-- A claim command is issued only while the pad holds no claim (R36 j). -/
theorem State.Inv.padClaim_of_claim_command (h : s.Inv) (hcmd : s.padCmd = 2#2 ∨ s.padCmd = 3#2) :
    s.padClaim = .none :=
  h.pad_agrees.1 .none (Phase.claimHeld_of_padCmd hcmd)

end

/-- Settles O23: the pad's answer by `pad_fail`, and what it then drives. -/
theorem padClaimOutIsGrantedOrRefused : Obligations.PadClaimOutIsGrantedOrRefused := by
  unfold Obligations.PadClaimOutIsGrantedOrRefused
  refine ⟨fun s hgrant => ⟨_, exec_padClaimOut s, ?_, ?_⟩, fun s hrefuse => ⟨_, exec_padClaimOut s, ?_, ?_⟩,
    fun s hinv hcmd => hinv.padClaim_of_claim_command (.inl hcmd)⟩
  · simp [hgrant]
  · simp [State.lineDrive_eq, State.padLevel, hgrant]
  · simp [hrefuse]
  · simp [State.lineDrive_eq, hrefuse]

/-- Settles O24: the pad's answer by `pad_fail`. -/
theorem padClaimInIsGrantedOrRefused : Obligations.PadClaimInIsGrantedOrRefused := by
  unfold Obligations.PadClaimInIsGrantedOrRefused
  refine ⟨fun s hgrant => ?_, fun s hrefuse => ?_, fun s hinv hcmd => hinv.padClaim_of_claim_command (.inr hcmd)⟩
  · rw [exec_padClaimIn, hgrant]
    rfl
  · rw [exec_padClaimIn, hrefuse]
    rfl

end Sys2Proof.Machine
end
